-- ==== Sys2Proof/Word.lean ====
section
/-! DEFINITION. The word types of CORE: the 8-bit data value (R5 `XLEN`) and the 16-bit address
(R5 `ALEN`). -/

namespace Sys2Proof

/-- `u8` of R7: a register, an operand byte, a memory cell. -/
abbrev Byte := BitVec 8

/-- `u16` of R7: the program counter and every address. -/
abbrev Addr := BitVec 16

end Sys2Proof
end

