-- ==== Sys2Proof/Syntax.lean ====
section
/-! DEFINITION. The syntax of CORE: register and flag names, addressing modes, operation descriptors
(R84, R101) and the ONE inductive `Instr`, one constructor for each of the 107 rows of
spec/opcode_table.json (R85, R91). -/

namespace Sys2Proof

/-- The four 8-bit registers `x[r]` of R9 and R20. PC is not among them (its width is 16). -/
inductive Reg
  | a | x | y | sp
  deriving DecidableEq, Repr

/-- The seven status flags of R27. -/
inductive Flag
  | c | z | i | d | b | v | n
  deriving DecidableEq, Repr

/-- The mode tags of R82: NESTS's eight and the spec's IMPLIED and RELATIVE. There is no indirect
tag (R113). -/
inductive Mode
  | implied | accumulator | immediate | zeroPage | zeroPageX | zeroPageY
  | absolute | absoluteX | absoluteY | relative
  deriving DecidableEq, Repr

/-- The operation of the LOGICAL family (R159). -/
inductive LogicOp
  | and | eor | ior
  deriving DecidableEq, Repr

/-- The direction of the INC/DEC family (R178). -/
inductive Direction
  | inc | dec
  deriving DecidableEq, Repr

/-- The target of the INC/DEC family (R178). -/
inductive IncDecTarget
  | register (r : Reg)
  | memory
  deriving DecidableEq, Repr

/-- The kind of the SHIFT/ROTATE family (R179). -/
inductive ShiftKind
  | asl | lsr | rol | ror
  deriving DecidableEq, Repr

/-- The operation kind of a descriptor, with its parameter: the families of R3 and R85. -/
inductive Kind
  | load (r : Reg)
  | store (r : Reg)
  | transfer (src dst : Reg)
  | adc
  | logical (op : LogicOp)
  | bitTest
  | incDec (dir : Direction) (target : IncDecTarget)
  | shift (kind : ShiftKind)
  | setFlag (k : Flag)
  | clearFlag (k : Flag)
  | branch (k : Flag) (takenWhen : Bool)
  | nop
  deriving DecidableEq, Repr

/-- An operation descriptor, R84: "(operation kind, addressing mode, optional register operand)"; the
register stands in the kind. -/
structure Descriptor where
  kind : Kind
  mode : Mode
  deriving DecidableEq, Repr

/-- The instructions of CORE, one constructor for each row of R85, holding the operand that the bytes
after the opcode give (R83). -/
inductive Instr
  -- LOAD (R137)
  /-- LDA, IMMEDIATE, opcode A9 (R140). -/
  | ldaImm (imm8 : Byte)
  /-- LDA, ZERO_PAGE, opcode A5 (R140). -/
  | ldaZp (zp8 : Byte)
  /-- LDA, ZERO_PAGE_X, opcode B5 (R140). -/
  | ldaZpx (zp8 : Byte)
  /-- LDA, ABSOLUTE, opcode AD (R140). -/
  | ldaAbs (addr16 : Addr)
  /-- LDA, ABSOLUTE_X, opcode BD (R140). -/
  | ldaAbx (addr16 : Addr)
  /-- LDA, ABSOLUTE_Y, opcode B9 (R140). -/
  | ldaAby (addr16 : Addr)
  /-- LDX, IMMEDIATE, opcode A2 (R141). -/
  | ldxImm (imm8 : Byte)
  /-- LDX, ZERO_PAGE, opcode A6 (R141). -/
  | ldxZp (zp8 : Byte)
  /-- LDX, ZERO_PAGE_Y, opcode B6 (R141). -/
  | ldxZpy (zp8 : Byte)
  /-- LDX, ABSOLUTE, opcode AE (R141). -/
  | ldxAbs (addr16 : Addr)
  /-- LDX, ABSOLUTE_Y, opcode BE (R141). -/
  | ldxAby (addr16 : Addr)
  /-- LDY, IMMEDIATE, opcode A0 (R142). -/
  | ldyImm (imm8 : Byte)
  /-- LDY, ZERO_PAGE, opcode A4 (R142). -/
  | ldyZp (zp8 : Byte)
  /-- LDY, ZERO_PAGE_X, opcode B4 (R142). -/
  | ldyZpx (zp8 : Byte)
  /-- LDY, ABSOLUTE, opcode AC (R142). -/
  | ldyAbs (addr16 : Addr)
  /-- LDY, ABSOLUTE_X, opcode BC (R142). -/
  | ldyAbx (addr16 : Addr)
  -- STORE (R138)
  /-- STA, ZERO_PAGE, opcode 85 (R143). -/
  | staZp (zp8 : Byte)
  /-- STA, ZERO_PAGE_X, opcode 95 (R143). -/
  | staZpx (zp8 : Byte)
  /-- STA, ABSOLUTE, opcode 8D (R143). -/
  | staAbs (addr16 : Addr)
  /-- STA, ABSOLUTE_X, opcode 9D (R143). -/
  | staAbx (addr16 : Addr)
  /-- STA, ABSOLUTE_Y, opcode 99 (R143). -/
  | staAby (addr16 : Addr)
  /-- STX, ZERO_PAGE, opcode 86 (R144). -/
  | stxZp (zp8 : Byte)
  /-- STX, ZERO_PAGE_Y, opcode 96 (R144). -/
  | stxZpy (zp8 : Byte)
  /-- STX, ABSOLUTE, opcode 8E (R144). -/
  | stxAbs (addr16 : Addr)
  /-- STY, ZERO_PAGE, opcode 84 (R145). -/
  | styZp (zp8 : Byte)
  /-- STY, ZERO_PAGE_X, opcode 94 (R145). -/
  | styZpx (zp8 : Byte)
  /-- STY, ABSOLUTE, opcode 8C (R145). -/
  | styAbs (addr16 : Addr)
  -- TRANSFER (R139)
  /-- TAX, IMPLIED, opcode AA (R146). -/
  | tax
  /-- TAY, IMPLIED, opcode A8 (R147). -/
  | tay
  /-- TXA, IMPLIED, opcode 8A (R148). -/
  | txa
  /-- TYA, IMPLIED, opcode 98 (R149). -/
  | tya
  /-- TSX, IMPLIED, opcode BA (R150). -/
  | tsx
  /-- TXS, IMPLIED, opcode 9A (R151). -/
  | txs
  -- ADC (R160)
  /-- ADC, IMMEDIATE, opcode 69 (R160). -/
  | adcImm (imm8 : Byte)
  /-- ADC, ZERO_PAGE, opcode 65 (R160). -/
  | adcZp (zp8 : Byte)
  /-- ADC, ZERO_PAGE_X, opcode 75 (R160). -/
  | adcZpx (zp8 : Byte)
  /-- ADC, ABSOLUTE, opcode 6D (R160). -/
  | adcAbs (addr16 : Addr)
  /-- ADC, ABSOLUTE_X, opcode 7D (R160). -/
  | adcAbx (addr16 : Addr)
  /-- ADC, ABSOLUTE_Y, opcode 79 (R160). -/
  | adcAby (addr16 : Addr)
  -- LOGICAL (R159)
  /-- AND, IMMEDIATE, opcode 29 (R161). -/
  | andImm (imm8 : Byte)
  /-- AND, ZERO_PAGE, opcode 25 (R161). -/
  | andZp (zp8 : Byte)
  /-- AND, ZERO_PAGE_X, opcode 35 (R161). -/
  | andZpx (zp8 : Byte)
  /-- AND, ABSOLUTE, opcode 2D (R161). -/
  | andAbs (addr16 : Addr)
  /-- AND, ABSOLUTE_X, opcode 3D (R161). -/
  | andAbx (addr16 : Addr)
  /-- AND, ABSOLUTE_Y, opcode 39 (R161). -/
  | andAby (addr16 : Addr)
  /-- EOR, IMMEDIATE, opcode 49 (R162). -/
  | eorImm (imm8 : Byte)
  /-- EOR, ZERO_PAGE, opcode 45 (R162). -/
  | eorZp (zp8 : Byte)
  /-- EOR, ZERO_PAGE_X, opcode 55 (R162). -/
  | eorZpx (zp8 : Byte)
  /-- EOR, ABSOLUTE, opcode 4D (R162). -/
  | eorAbs (addr16 : Addr)
  /-- EOR, ABSOLUTE_X, opcode 5D (R162). -/
  | eorAbx (addr16 : Addr)
  /-- EOR, ABSOLUTE_Y, opcode 59 (R162). -/
  | eorAby (addr16 : Addr)
  /-- ORA, IMMEDIATE, opcode 09 (R163). -/
  | oraImm (imm8 : Byte)
  /-- ORA, ZERO_PAGE, opcode 05 (R163). -/
  | oraZp (zp8 : Byte)
  /-- ORA, ZERO_PAGE_X, opcode 15 (R163). -/
  | oraZpx (zp8 : Byte)
  /-- ORA, ABSOLUTE, opcode 0D (R163). -/
  | oraAbs (addr16 : Addr)
  /-- ORA, ABSOLUTE_X, opcode 1D (R163). -/
  | oraAbx (addr16 : Addr)
  /-- ORA, ABSOLUTE_Y, opcode 19 (R163). -/
  | oraAby (addr16 : Addr)
  -- BIT_TEST (R164)
  /-- BIT, ZERO_PAGE, opcode 24 (R164). -/
  | bitZp (zp8 : Byte)
  /-- BIT, ABSOLUTE, opcode 2C (R164). -/
  | bitAbs (addr16 : Addr)
  -- INC/DEC (R178)
  /-- INC, ZERO_PAGE, opcode E6 (R180). -/
  | incZp (zp8 : Byte)
  /-- INC, ZERO_PAGE_X, opcode F6 (R180). -/
  | incZpx (zp8 : Byte)
  /-- INC, ABSOLUTE, opcode EE (R180). -/
  | incAbs (addr16 : Addr)
  /-- INC, ABSOLUTE_X, opcode FE (R180). -/
  | incAbx (addr16 : Addr)
  /-- DEC, ZERO_PAGE, opcode C6 (R181). -/
  | decZp (zp8 : Byte)
  /-- DEC, ZERO_PAGE_X, opcode D6 (R181). -/
  | decZpx (zp8 : Byte)
  /-- DEC, ABSOLUTE, opcode CE (R181). -/
  | decAbs (addr16 : Addr)
  /-- DEC, ABSOLUTE_X, opcode DE (R181). -/
  | decAbx (addr16 : Addr)
  /-- INX, IMPLIED, opcode E8 (R182). -/
  | inx
  /-- INY, IMPLIED, opcode C8 (R183). -/
  | iny
  /-- DEX, IMPLIED, opcode CA (R184). -/
  | dex
  /-- DEY, IMPLIED, opcode 88 (R185). -/
  | dey
  -- SHIFT/ROTATE (R179)
  /-- ASL, ACCUMULATOR, opcode 0A (R186). -/
  | aslAcc
  /-- ASL, ZERO_PAGE, opcode 06 (R186). -/
  | aslZp (zp8 : Byte)
  /-- ASL, ZERO_PAGE_X, opcode 16 (R186). -/
  | aslZpx (zp8 : Byte)
  /-- ASL, ABSOLUTE, opcode 0E (R186). -/
  | aslAbs (addr16 : Addr)
  /-- ASL, ABSOLUTE_X, opcode 1E (R186). -/
  | aslAbx (addr16 : Addr)
  /-- LSR, ACCUMULATOR, opcode 4A (R187). -/
  | lsrAcc
  /-- LSR, ZERO_PAGE, opcode 46 (R187). -/
  | lsrZp (zp8 : Byte)
  /-- LSR, ZERO_PAGE_X, opcode 56 (R187). -/
  | lsrZpx (zp8 : Byte)
  /-- LSR, ABSOLUTE, opcode 4E (R187). -/
  | lsrAbs (addr16 : Addr)
  /-- LSR, ABSOLUTE_X, opcode 5E (R187). -/
  | lsrAbx (addr16 : Addr)
  /-- ROL, ACCUMULATOR, opcode 2A (R188). -/
  | rolAcc
  /-- ROL, ZERO_PAGE, opcode 26 (R188). -/
  | rolZp (zp8 : Byte)
  /-- ROL, ZERO_PAGE_X, opcode 36 (R188). -/
  | rolZpx (zp8 : Byte)
  /-- ROL, ABSOLUTE, opcode 2E (R188). -/
  | rolAbs (addr16 : Addr)
  /-- ROL, ABSOLUTE_X, opcode 3E (R188). -/
  | rolAbx (addr16 : Addr)
  /-- ROR, ACCUMULATOR, opcode 6A (R189). -/
  | rorAcc
  /-- ROR, ZERO_PAGE, opcode 66 (R189). -/
  | rorZp (zp8 : Byte)
  /-- ROR, ZERO_PAGE_X, opcode 76 (R189). -/
  | rorZpx (zp8 : Byte)
  /-- ROR, ABSOLUTE, opcode 6E (R189). -/
  | rorAbs (addr16 : Addr)
  /-- ROR, ABSOLUTE_X, opcode 7E (R189). -/
  | rorAbx (addr16 : Addr)
  -- SET_FLAG and CLEAR_FLAG (R199)
  /-- CLC, IMPLIED, opcode 18 (R200). -/
  | clc
  /-- SEC, IMPLIED, opcode 38 (R201). -/
  | sec
  /-- CLI, IMPLIED, opcode 58 (R202). -/
  | cli
  /-- SEI, IMPLIED, opcode 78 (R203). -/
  | sei
  /-- CLV, IMPLIED, opcode B8 (R204). -/
  | clv
  /-- CLD, IMPLIED, opcode D8 (R205). -/
  | cld
  /-- SED, IMPLIED, opcode F8 (R206). -/
  | sed
  -- BRANCH (R207)
  /-- BPL, RELATIVE, opcode 10 (R208). -/
  | bpl (rel8 : Byte)
  /-- BMI, RELATIVE, opcode 30 (R209). -/
  | bmi (rel8 : Byte)
  /-- BVC, RELATIVE, opcode 50 (R210). -/
  | bvc (rel8 : Byte)
  /-- BVS, RELATIVE, opcode 70 (R211). -/
  | bvs (rel8 : Byte)
  /-- BCC, RELATIVE, opcode 90 (R212). -/
  | bcc (rel8 : Byte)
  /-- BCS, RELATIVE, opcode B0 (R213). -/
  | bcs (rel8 : Byte)
  /-- BNE, RELATIVE, opcode D0 (R214). -/
  | bne (rel8 : Byte)
  /-- BEQ, RELATIVE, opcode F0 (R215). -/
  | beq (rel8 : Byte)
  -- NOP (R216)
  /-- NOP, IMPLIED, opcode EA (R216). -/
  | nop
  deriving DecidableEq, Repr

/-- The descriptor of each instruction: the `family` parameter and `mode` columns of R85 and R91. -/
def Instr.descriptor : Instr → Descriptor
  -- LOAD (R137)
  | .ldaImm _ => ⟨.load .a, .immediate⟩
  | .ldaZp _ => ⟨.load .a, .zeroPage⟩
  | .ldaZpx _ => ⟨.load .a, .zeroPageX⟩
  | .ldaAbs _ => ⟨.load .a, .absolute⟩
  | .ldaAbx _ => ⟨.load .a, .absoluteX⟩
  | .ldaAby _ => ⟨.load .a, .absoluteY⟩
  | .ldxImm _ => ⟨.load .x, .immediate⟩
  | .ldxZp _ => ⟨.load .x, .zeroPage⟩
  | .ldxZpy _ => ⟨.load .x, .zeroPageY⟩
  | .ldxAbs _ => ⟨.load .x, .absolute⟩
  | .ldxAby _ => ⟨.load .x, .absoluteY⟩
  | .ldyImm _ => ⟨.load .y, .immediate⟩
  | .ldyZp _ => ⟨.load .y, .zeroPage⟩
  | .ldyZpx _ => ⟨.load .y, .zeroPageX⟩
  | .ldyAbs _ => ⟨.load .y, .absolute⟩
  | .ldyAbx _ => ⟨.load .y, .absoluteX⟩
  -- STORE (R138)
  | .staZp _ => ⟨.store .a, .zeroPage⟩
  | .staZpx _ => ⟨.store .a, .zeroPageX⟩
  | .staAbs _ => ⟨.store .a, .absolute⟩
  | .staAbx _ => ⟨.store .a, .absoluteX⟩
  | .staAby _ => ⟨.store .a, .absoluteY⟩
  | .stxZp _ => ⟨.store .x, .zeroPage⟩
  | .stxZpy _ => ⟨.store .x, .zeroPageY⟩
  | .stxAbs _ => ⟨.store .x, .absolute⟩
  | .styZp _ => ⟨.store .y, .zeroPage⟩
  | .styZpx _ => ⟨.store .y, .zeroPageX⟩
  | .styAbs _ => ⟨.store .y, .absolute⟩
  -- TRANSFER (R139)
  | .tax => ⟨.transfer .a .x, .implied⟩
  | .tay => ⟨.transfer .a .y, .implied⟩
  | .txa => ⟨.transfer .x .a, .implied⟩
  | .tya => ⟨.transfer .y .a, .implied⟩
  | .tsx => ⟨.transfer .sp .x, .implied⟩
  | .txs => ⟨.transfer .x .sp, .implied⟩
  -- ADC (R160)
  | .adcImm _ => ⟨.adc, .immediate⟩
  | .adcZp _ => ⟨.adc, .zeroPage⟩
  | .adcZpx _ => ⟨.adc, .zeroPageX⟩
  | .adcAbs _ => ⟨.adc, .absolute⟩
  | .adcAbx _ => ⟨.adc, .absoluteX⟩
  | .adcAby _ => ⟨.adc, .absoluteY⟩
  -- LOGICAL (R159)
  | .andImm _ => ⟨.logical .and, .immediate⟩
  | .andZp _ => ⟨.logical .and, .zeroPage⟩
  | .andZpx _ => ⟨.logical .and, .zeroPageX⟩
  | .andAbs _ => ⟨.logical .and, .absolute⟩
  | .andAbx _ => ⟨.logical .and, .absoluteX⟩
  | .andAby _ => ⟨.logical .and, .absoluteY⟩
  | .eorImm _ => ⟨.logical .eor, .immediate⟩
  | .eorZp _ => ⟨.logical .eor, .zeroPage⟩
  | .eorZpx _ => ⟨.logical .eor, .zeroPageX⟩
  | .eorAbs _ => ⟨.logical .eor, .absolute⟩
  | .eorAbx _ => ⟨.logical .eor, .absoluteX⟩
  | .eorAby _ => ⟨.logical .eor, .absoluteY⟩
  | .oraImm _ => ⟨.logical .ior, .immediate⟩
  | .oraZp _ => ⟨.logical .ior, .zeroPage⟩
  | .oraZpx _ => ⟨.logical .ior, .zeroPageX⟩
  | .oraAbs _ => ⟨.logical .ior, .absolute⟩
  | .oraAbx _ => ⟨.logical .ior, .absoluteX⟩
  | .oraAby _ => ⟨.logical .ior, .absoluteY⟩
  -- BIT_TEST (R164)
  | .bitZp _ => ⟨.bitTest, .zeroPage⟩
  | .bitAbs _ => ⟨.bitTest, .absolute⟩
  -- INC/DEC (R178)
  | .incZp _ => ⟨.incDec .inc .memory, .zeroPage⟩
  | .incZpx _ => ⟨.incDec .inc .memory, .zeroPageX⟩
  | .incAbs _ => ⟨.incDec .inc .memory, .absolute⟩
  | .incAbx _ => ⟨.incDec .inc .memory, .absoluteX⟩
  | .decZp _ => ⟨.incDec .dec .memory, .zeroPage⟩
  | .decZpx _ => ⟨.incDec .dec .memory, .zeroPageX⟩
  | .decAbs _ => ⟨.incDec .dec .memory, .absolute⟩
  | .decAbx _ => ⟨.incDec .dec .memory, .absoluteX⟩
  | .inx => ⟨.incDec .inc (.register .x), .implied⟩
  | .iny => ⟨.incDec .inc (.register .y), .implied⟩
  | .dex => ⟨.incDec .dec (.register .x), .implied⟩
  | .dey => ⟨.incDec .dec (.register .y), .implied⟩
  -- SHIFT/ROTATE (R179)
  | .aslAcc => ⟨.shift .asl, .accumulator⟩
  | .aslZp _ => ⟨.shift .asl, .zeroPage⟩
  | .aslZpx _ => ⟨.shift .asl, .zeroPageX⟩
  | .aslAbs _ => ⟨.shift .asl, .absolute⟩
  | .aslAbx _ => ⟨.shift .asl, .absoluteX⟩
  | .lsrAcc => ⟨.shift .lsr, .accumulator⟩
  | .lsrZp _ => ⟨.shift .lsr, .zeroPage⟩
  | .lsrZpx _ => ⟨.shift .lsr, .zeroPageX⟩
  | .lsrAbs _ => ⟨.shift .lsr, .absolute⟩
  | .lsrAbx _ => ⟨.shift .lsr, .absoluteX⟩
  | .rolAcc => ⟨.shift .rol, .accumulator⟩
  | .rolZp _ => ⟨.shift .rol, .zeroPage⟩
  | .rolZpx _ => ⟨.shift .rol, .zeroPageX⟩
  | .rolAbs _ => ⟨.shift .rol, .absolute⟩
  | .rolAbx _ => ⟨.shift .rol, .absoluteX⟩
  | .rorAcc => ⟨.shift .ror, .accumulator⟩
  | .rorZp _ => ⟨.shift .ror, .zeroPage⟩
  | .rorZpx _ => ⟨.shift .ror, .zeroPageX⟩
  | .rorAbs _ => ⟨.shift .ror, .absolute⟩
  | .rorAbx _ => ⟨.shift .ror, .absoluteX⟩
  -- SET_FLAG and CLEAR_FLAG (R199)
  | .clc => ⟨.clearFlag .c, .implied⟩
  | .sec => ⟨.setFlag .c, .implied⟩
  | .cli => ⟨.clearFlag .i, .implied⟩
  | .sei => ⟨.setFlag .i, .implied⟩
  | .clv => ⟨.clearFlag .v, .implied⟩
  | .cld => ⟨.clearFlag .d, .implied⟩
  | .sed => ⟨.setFlag .d, .implied⟩
  -- BRANCH (R207)
  | .bpl _ => ⟨.branch .n false, .relative⟩
  | .bmi _ => ⟨.branch .n true, .relative⟩
  | .bvc _ => ⟨.branch .v false, .relative⟩
  | .bvs _ => ⟨.branch .v true, .relative⟩
  | .bcc _ => ⟨.branch .c false, .relative⟩
  | .bcs _ => ⟨.branch .c true, .relative⟩
  | .bne _ => ⟨.branch .z false, .relative⟩
  | .beq _ => ⟨.branch .z true, .relative⟩
  -- NOP (R216)
  | .nop => ⟨.nop, .implied⟩

end Sys2Proof
end

