-- ==== Sys2Proof/WellFormed.lean ====
section
/-! DEFINITION. Which descriptors exist: the (kind, mode) pairs of R82 and R85. An `Instr` holds
operands of exact widths, so every term of it is well formed (Laws/Decode.lean,
`every_instr_wellFormed`); the checks bite on descriptors, where a kind can be given a register, a
flag or a mode that the table has no entry for. -/

namespace Sys2Proof

/-- The modes that R82 and R85 give each kind; none for a parameter the table does not have
(R137 to R139: LOAD and STORE of A, X, Y and the six transfer pairs; R178: X and Y only; R199: set
for C, I, D, clear for C, I, D, V; R207: the eight conditions). -/
def Kind.allowedModes : Kind → List Mode
  | .load .a => [.immediate, .zeroPage, .zeroPageX, .absolute, .absoluteX, .absoluteY]
  | .load .x => [.immediate, .zeroPage, .zeroPageY, .absolute, .absoluteY]
  | .load .y => [.immediate, .zeroPage, .zeroPageX, .absolute, .absoluteX]
  | .load .sp => []
  | .store .a => [.zeroPage, .zeroPageX, .absolute, .absoluteX, .absoluteY]
  | .store .x => [.zeroPage, .zeroPageY, .absolute]
  | .store .y => [.zeroPage, .zeroPageX, .absolute]
  | .store .sp => []
  | .transfer src dst =>
    if (src, dst) ∈ [(Reg.a, Reg.x), (.a, .y), (.x, .a), (.y, .a), (.sp, .x), (.x, .sp)]
    then [.implied] else []
  | .adc | .logical _ =>
    [.immediate, .zeroPage, .zeroPageX, .absolute, .absoluteX, .absoluteY]
  | .bitTest => [.zeroPage, .absolute]
  | .incDec _ .memory => [.zeroPage, .zeroPageX, .absolute, .absoluteX]
  | .incDec _ (.register r) => if r ∈ [Reg.x, Reg.y] then [.implied] else []
  | .shift _ => [.accumulator, .zeroPage, .zeroPageX, .absolute, .absoluteX]
  | .setFlag k => if k ∈ [Flag.c, .i, .d] then [.implied] else []
  | .clearFlag k => if k ∈ [Flag.c, .i, .d, .v] then [.implied] else []
  | .branch k _ => if k ∈ [Flag.n, .v, .c, .z] then [.relative] else []
  | .nop => [.implied]

/-- A descriptor that the table has an entry for. -/
def Descriptor.wellFormed (d : Descriptor) : Bool := d.mode ∈ d.kind.allowedModes

/-- An instruction whose descriptor exists. -/
def Instr.wellFormed (i : Instr) : Bool := i.descriptor.wellFormed

end Sys2Proof
end

