-- ==== Sys2Proof/Decode.lean ====
section
/-! DEFINITION. The opcode decoder of CORE (R84, R101): the table `OPTABLE` of R85, a decoder that is
total on every list of bytes and rejects by name, and the encoder of R81. Every opcode byte is the
spec's own choice (92_eei_decisions.md D1, D2; log entry 6), the byte order of an address too
(R53, D6; log entry 7). -/

namespace Sys2Proof

/-- `{h, l}` of R8, the address whose high byte is `hi` and whose low byte is `lo`. -/
def joinBytes (hi lo : Byte) : Addr := hi ++ lo

/-- Bits 7:0 of an address, the byte `lo8` of format F3 (R81). -/
def loByte (a : Addr) : Byte := a.extractLsb' 0 8

/-- Bits 15:8 of an address, the byte `hi8` of format F3 (R81). -/
def hiByte (a : Addr) : Byte := a.extractLsb' 8 8

/-- The two operand bytes of format F3 in fetch order, low byte first (R53, R81; log entry 7). -/
def addrBytes (a : Addr) : List Byte := [loByte a, hiByte a]

/-- The three formats of R81, holding what the format's operand bytes are given to. -/
inductive Form
  | f1 (instr : Instr)
  | f2 (mk : Byte → Instr)
  | f3 (mk : Addr → Instr)

/-- How many operand bytes a format has (R80, R81). -/
def Form.operandBytes : Form → Nat
  | .f1 _ => 0
  | .f2 _ => 1
  | .f3 _ => 2

/-- The instruction of a format, given the two bytes after the opcode; a byte that the format does
not have is ignored. The first byte of an address is its low byte (R53, R83; log entry 7). -/
def Form.build : Form → Byte → Byte → Instr
  | .f1 instr, _, _ => instr
  | .f2 mk, first, _ => mk first
  | .f3 mk, first, second => mk (joinBytes second first)

/-- One row of `OPTABLE`: the opcode byte and the format with its constructor. -/
structure OpRow where
  opcode : Byte
  form : Form

/-- The rows of the family LOAD (R137). -/
def loadRows : List OpRow :=
  [⟨0xA9, .f2 .ldaImm⟩, ⟨0xA5, .f2 .ldaZp⟩, ⟨0xB5, .f2 .ldaZpx⟩, ⟨0xAD, .f3 .ldaAbs⟩,
   ⟨0xBD, .f3 .ldaAbx⟩, ⟨0xB9, .f3 .ldaAby⟩, ⟨0xA2, .f2 .ldxImm⟩, ⟨0xA6, .f2 .ldxZp⟩,
   ⟨0xB6, .f2 .ldxZpy⟩, ⟨0xAE, .f3 .ldxAbs⟩, ⟨0xBE, .f3 .ldxAby⟩, ⟨0xA0, .f2 .ldyImm⟩,
   ⟨0xA4, .f2 .ldyZp⟩, ⟨0xB4, .f2 .ldyZpx⟩, ⟨0xAC, .f3 .ldyAbs⟩, ⟨0xBC, .f3 .ldyAbx⟩]

/-- The rows of the family STORE (R138). -/
def storeRows : List OpRow :=
  [⟨0x85, .f2 .staZp⟩, ⟨0x95, .f2 .staZpx⟩, ⟨0x8D, .f3 .staAbs⟩, ⟨0x9D, .f3 .staAbx⟩,
   ⟨0x99, .f3 .staAby⟩, ⟨0x86, .f2 .stxZp⟩, ⟨0x96, .f2 .stxZpy⟩, ⟨0x8E, .f3 .stxAbs⟩,
   ⟨0x84, .f2 .styZp⟩, ⟨0x94, .f2 .styZpx⟩, ⟨0x8C, .f3 .styAbs⟩]

/-- The rows of the family TRANSFER (R139). -/
def transferRows : List OpRow :=
  [⟨0xAA, .f1 .tax⟩, ⟨0xA8, .f1 .tay⟩, ⟨0x8A, .f1 .txa⟩, ⟨0x98, .f1 .tya⟩, ⟨0xBA, .f1 .tsx⟩,
   ⟨0x9A, .f1 .txs⟩]

/-- The rows of the family ADC (R160). -/
def adcRows : List OpRow :=
  [⟨0x69, .f2 .adcImm⟩, ⟨0x65, .f2 .adcZp⟩, ⟨0x75, .f2 .adcZpx⟩, ⟨0x6D, .f3 .adcAbs⟩,
   ⟨0x7D, .f3 .adcAbx⟩, ⟨0x79, .f3 .adcAby⟩]

/-- The rows of the family LOGICAL (R159). -/
def logicalRows : List OpRow :=
  [⟨0x29, .f2 .andImm⟩, ⟨0x25, .f2 .andZp⟩, ⟨0x35, .f2 .andZpx⟩, ⟨0x2D, .f3 .andAbs⟩,
   ⟨0x3D, .f3 .andAbx⟩, ⟨0x39, .f3 .andAby⟩, ⟨0x49, .f2 .eorImm⟩, ⟨0x45, .f2 .eorZp⟩,
   ⟨0x55, .f2 .eorZpx⟩, ⟨0x4D, .f3 .eorAbs⟩, ⟨0x5D, .f3 .eorAbx⟩, ⟨0x59, .f3 .eorAby⟩,
   ⟨0x09, .f2 .oraImm⟩, ⟨0x05, .f2 .oraZp⟩, ⟨0x15, .f2 .oraZpx⟩, ⟨0x0D, .f3 .oraAbs⟩,
   ⟨0x1D, .f3 .oraAbx⟩, ⟨0x19, .f3 .oraAby⟩]

/-- The rows of the family BIT_TEST (R164). -/
def bitTestRows : List OpRow :=
  [⟨0x24, .f2 .bitZp⟩, ⟨0x2C, .f3 .bitAbs⟩]

/-- The rows of the family INC/DEC (R178). -/
def incDecRows : List OpRow :=
  [⟨0xE6, .f2 .incZp⟩, ⟨0xF6, .f2 .incZpx⟩, ⟨0xEE, .f3 .incAbs⟩, ⟨0xFE, .f3 .incAbx⟩,
   ⟨0xC6, .f2 .decZp⟩, ⟨0xD6, .f2 .decZpx⟩, ⟨0xCE, .f3 .decAbs⟩, ⟨0xDE, .f3 .decAbx⟩,
   ⟨0xE8, .f1 .inx⟩, ⟨0xC8, .f1 .iny⟩, ⟨0xCA, .f1 .dex⟩, ⟨0x88, .f1 .dey⟩]

/-- The rows of the family SHIFT/ROTATE (R179). -/
def shiftRows : List OpRow :=
  [⟨0x0A, .f1 .aslAcc⟩, ⟨0x06, .f2 .aslZp⟩, ⟨0x16, .f2 .aslZpx⟩, ⟨0x0E, .f3 .aslAbs⟩,
   ⟨0x1E, .f3 .aslAbx⟩, ⟨0x4A, .f1 .lsrAcc⟩, ⟨0x46, .f2 .lsrZp⟩, ⟨0x56, .f2 .lsrZpx⟩,
   ⟨0x4E, .f3 .lsrAbs⟩, ⟨0x5E, .f3 .lsrAbx⟩, ⟨0x2A, .f1 .rolAcc⟩, ⟨0x26, .f2 .rolZp⟩,
   ⟨0x36, .f2 .rolZpx⟩, ⟨0x2E, .f3 .rolAbs⟩, ⟨0x3E, .f3 .rolAbx⟩, ⟨0x6A, .f1 .rorAcc⟩,
   ⟨0x66, .f2 .rorZp⟩, ⟨0x76, .f2 .rorZpx⟩, ⟨0x6E, .f3 .rorAbs⟩, ⟨0x7E, .f3 .rorAbx⟩]

/-- The rows of the family SET_FLAG and CLEAR_FLAG (R199). -/
def flagRows : List OpRow :=
  [⟨0x18, .f1 .clc⟩, ⟨0x38, .f1 .sec⟩, ⟨0x58, .f1 .cli⟩, ⟨0x78, .f1 .sei⟩, ⟨0xB8, .f1 .clv⟩,
   ⟨0xD8, .f1 .cld⟩, ⟨0xF8, .f1 .sed⟩]

/-- The rows of the family BRANCH (R207). -/
def branchRows : List OpRow :=
  [⟨0x10, .f2 .bpl⟩, ⟨0x30, .f2 .bmi⟩, ⟨0x50, .f2 .bvc⟩, ⟨0x70, .f2 .bvs⟩, ⟨0x90, .f2 .bcc⟩,
   ⟨0xB0, .f2 .bcs⟩, ⟨0xD0, .f2 .bne⟩, ⟨0xF0, .f2 .beq⟩]

/-- The rows of the family NOP (R216). -/
def nopRows : List OpRow :=
  [⟨0xEA, .f1 .nop⟩]

/-- `OPTABLE` of R85: 107 entries. Every other byte has no entry (R86). -/
def opTable : List OpRow :=
  loadRows ++ storeRows ++ transferRows ++ adcRows ++ logicalRows ++ bitTestRows ++
  incDecRows ++ shiftRows ++ flagRows ++ branchRows ++ nopRows

/-- The table entry of an opcode byte, R84: a total function of the byte alone. -/
def lookup (op : Byte) : Option Form :=
  (opTable.find? fun row => row.opcode == op).map (·.form)

/-- `Decode(op)` of R101: the descriptor of the byte, or none when it has no entry. -/
def descriptorOf (op : Byte) : Option Descriptor :=
  (lookup op).map fun form => (form.build 0 0).descriptor

/-- What decoding a list of bytes gives: an instruction and the bytes after it, or a rejection by
name. -/
inductive Decoded
  /-- An instruction and the bytes that follow it. -/
  | instr (i : Instr) (rest : List Byte)
  /-- The opcode byte has no table entry (R86): the machine raises UnknownOpcode (R250). -/
  | noEntry (op : Byte)
  /-- The list ends before the instruction's last byte; memory never does (R26). -/
  | truncated
  deriving DecidableEq, Repr

/-- Decoding a list of bytes, first byte first. The opcode byte alone decides (R84); a byte with no
entry is rejected before any byte after it is looked at (R87). -/
def decode : List Byte → Decoded
  | [] => .truncated
  | op :: rest =>
    match lookup op with
    | none => .noEntry op
    | some form =>
      if rest.length < form.operandBytes then .truncated
      else .instr (form.build (rest.getD 0 0) (rest.getD 1 0)) (rest.drop form.operandBytes)

/-- The bytes of an instruction, byte 0 (the lowest address) first: the formats of R81 with the
opcode bytes of R85. -/
def encode : Instr → List Byte
  -- LOAD (R137)
  | .ldaImm imm8 => [0xA9, imm8]
  | .ldaZp zp8 => [0xA5, zp8]
  | .ldaZpx zp8 => [0xB5, zp8]
  | .ldaAbs addr16 => 0xAD :: addrBytes addr16
  | .ldaAbx addr16 => 0xBD :: addrBytes addr16
  | .ldaAby addr16 => 0xB9 :: addrBytes addr16
  | .ldxImm imm8 => [0xA2, imm8]
  | .ldxZp zp8 => [0xA6, zp8]
  | .ldxZpy zp8 => [0xB6, zp8]
  | .ldxAbs addr16 => 0xAE :: addrBytes addr16
  | .ldxAby addr16 => 0xBE :: addrBytes addr16
  | .ldyImm imm8 => [0xA0, imm8]
  | .ldyZp zp8 => [0xA4, zp8]
  | .ldyZpx zp8 => [0xB4, zp8]
  | .ldyAbs addr16 => 0xAC :: addrBytes addr16
  | .ldyAbx addr16 => 0xBC :: addrBytes addr16
  -- STORE (R138)
  | .staZp zp8 => [0x85, zp8]
  | .staZpx zp8 => [0x95, zp8]
  | .staAbs addr16 => 0x8D :: addrBytes addr16
  | .staAbx addr16 => 0x9D :: addrBytes addr16
  | .staAby addr16 => 0x99 :: addrBytes addr16
  | .stxZp zp8 => [0x86, zp8]
  | .stxZpy zp8 => [0x96, zp8]
  | .stxAbs addr16 => 0x8E :: addrBytes addr16
  | .styZp zp8 => [0x84, zp8]
  | .styZpx zp8 => [0x94, zp8]
  | .styAbs addr16 => 0x8C :: addrBytes addr16
  -- TRANSFER (R139)
  | .tax => [0xAA]
  | .tay => [0xA8]
  | .txa => [0x8A]
  | .tya => [0x98]
  | .tsx => [0xBA]
  | .txs => [0x9A]
  -- ADC (R160)
  | .adcImm imm8 => [0x69, imm8]
  | .adcZp zp8 => [0x65, zp8]
  | .adcZpx zp8 => [0x75, zp8]
  | .adcAbs addr16 => 0x6D :: addrBytes addr16
  | .adcAbx addr16 => 0x7D :: addrBytes addr16
  | .adcAby addr16 => 0x79 :: addrBytes addr16
  -- LOGICAL (R159)
  | .andImm imm8 => [0x29, imm8]
  | .andZp zp8 => [0x25, zp8]
  | .andZpx zp8 => [0x35, zp8]
  | .andAbs addr16 => 0x2D :: addrBytes addr16
  | .andAbx addr16 => 0x3D :: addrBytes addr16
  | .andAby addr16 => 0x39 :: addrBytes addr16
  | .eorImm imm8 => [0x49, imm8]
  | .eorZp zp8 => [0x45, zp8]
  | .eorZpx zp8 => [0x55, zp8]
  | .eorAbs addr16 => 0x4D :: addrBytes addr16
  | .eorAbx addr16 => 0x5D :: addrBytes addr16
  | .eorAby addr16 => 0x59 :: addrBytes addr16
  | .oraImm imm8 => [0x09, imm8]
  | .oraZp zp8 => [0x05, zp8]
  | .oraZpx zp8 => [0x15, zp8]
  | .oraAbs addr16 => 0x0D :: addrBytes addr16
  | .oraAbx addr16 => 0x1D :: addrBytes addr16
  | .oraAby addr16 => 0x19 :: addrBytes addr16
  -- BIT_TEST (R164)
  | .bitZp zp8 => [0x24, zp8]
  | .bitAbs addr16 => 0x2C :: addrBytes addr16
  -- INC/DEC (R178)
  | .incZp zp8 => [0xE6, zp8]
  | .incZpx zp8 => [0xF6, zp8]
  | .incAbs addr16 => 0xEE :: addrBytes addr16
  | .incAbx addr16 => 0xFE :: addrBytes addr16
  | .decZp zp8 => [0xC6, zp8]
  | .decZpx zp8 => [0xD6, zp8]
  | .decAbs addr16 => 0xCE :: addrBytes addr16
  | .decAbx addr16 => 0xDE :: addrBytes addr16
  | .inx => [0xE8]
  | .iny => [0xC8]
  | .dex => [0xCA]
  | .dey => [0x88]
  -- SHIFT/ROTATE (R179)
  | .aslAcc => [0x0A]
  | .aslZp zp8 => [0x06, zp8]
  | .aslZpx zp8 => [0x16, zp8]
  | .aslAbs addr16 => 0x0E :: addrBytes addr16
  | .aslAbx addr16 => 0x1E :: addrBytes addr16
  | .lsrAcc => [0x4A]
  | .lsrZp zp8 => [0x46, zp8]
  | .lsrZpx zp8 => [0x56, zp8]
  | .lsrAbs addr16 => 0x4E :: addrBytes addr16
  | .lsrAbx addr16 => 0x5E :: addrBytes addr16
  | .rolAcc => [0x2A]
  | .rolZp zp8 => [0x26, zp8]
  | .rolZpx zp8 => [0x36, zp8]
  | .rolAbs addr16 => 0x2E :: addrBytes addr16
  | .rolAbx addr16 => 0x3E :: addrBytes addr16
  | .rorAcc => [0x6A]
  | .rorZp zp8 => [0x66, zp8]
  | .rorZpx zp8 => [0x76, zp8]
  | .rorAbs addr16 => 0x6E :: addrBytes addr16
  | .rorAbx addr16 => 0x7E :: addrBytes addr16
  -- SET_FLAG and CLEAR_FLAG (R199)
  | .clc => [0x18]
  | .sec => [0x38]
  | .cli => [0x58]
  | .sei => [0x78]
  | .clv => [0xB8]
  | .cld => [0xD8]
  | .sed => [0xF8]
  -- BRANCH (R207)
  | .bpl rel8 => [0x10, rel8]
  | .bmi rel8 => [0x30, rel8]
  | .bvc rel8 => [0x50, rel8]
  | .bvs rel8 => [0x70, rel8]
  | .bcc rel8 => [0x90, rel8]
  | .bcs rel8 => [0xB0, rel8]
  | .bne rel8 => [0xD0, rel8]
  | .beq rel8 => [0xF0, rel8]
  -- NOP (R216)
  | .nop => [0xEA]

/-- The length in bytes, R82. -/
def Instr.length (i : Instr) : Nat := (encode i).length

/-- The length in bytes of an instruction with a mode, opcode byte included (R82). -/
def Mode.length : Mode → Nat
  | .implied | .accumulator => 1
  | .immediate | .zeroPage | .zeroPageX | .zeroPageY | .relative => 2
  | .absolute | .absoluteX | .absoluteY => 3

/-- The three bytes of an instruction given as one number, bit 0 the least significant bit of byte 0
(R81: "As a 24-bit little-endian word (byte 0 in bits 7:0)"); bits from `nbits` up are 0. -/
def wordBytes (nbits w : Nat) : List Byte :=
  let v := w % 2 ^ nbits
  [BitVec.ofNat 8 v, BitVec.ofNat 8 (v / 256), BitVec.ofNat 8 (v / 65536)]

/-- The instruction the decoder reads from the word `w` of `nbits` bits, numbered as
spec/opcode_table.json numbers them. -/
def decodeTableWord (nbits w : Nat) : Option Instr :=
  match decode (wordBytes nbits w) with
  | .instr i _ => some i
  | .noEntry _ => none
  | .truncated => none

end Sys2Proof
end

