-- ==== Sys2Proof/Config.lean ====
section
/-! DEFINITION. What one implementation of CORE fixes and the spec leaves OPEN (R5): the two reset
constants. The other two parameters of R5 stand where a repair may mend them: `OPTABLE` in
Sys2Proof/Decode.lean and `COST` in Sys2Proof/Machine/Costs.lean. CORE has no free value: every
result is a function of the state (R129, R239). -/

namespace Sys2Proof.Config

/-- `RESET_SP` of R5 and R44, OPEN in the spec (92_eei_decisions.md D7).
DESIGN CHOICE (log entry 1), unsafe: the spec gives no literal; the model names zero. -/
def resetSP : Byte := 0x00

/-- `RESET_PC` of R5 and R44, OPEN in the spec (92_eei_decisions.md D8).
DESIGN CHOICE (log entry 2), unsafe: the spec gives no literal; the model names zero. -/
def resetPC : Addr := 0x0000

end Sys2Proof.Config
end

