-- ==== Sys2Proof/Machine/State.lean ====
section
/-! DEFINITION. The state of CORE as plain data, the reasons a step can stop, and the state after
reset. Every piece of state of 10_state.md is here (R20, R27, R36, R43); the operations on it are in
Machine/Ops.lean and Machine/Flags.lean. -/

namespace Sys2Proof.Machine

/-- The 65536 bytes of R36, as the list of (address, byte) pairs in canonical form (`Memory.wf`):
addresses strictly rising, none past 0xFFFF, no byte equal to the reset contents 0x00 (R44). -/
abbrev Memory := List Host.Cell

/-- What the one exception records, `UnknownOpcode(op, at)` of R251. -/
structure UnknownOpcode where
  /-- The offending byte, `op` of R251. -/
  op : Byte
  /-- The address it was fetched from, `at` of R251. -/
  loc : Addr
  deriving DecidableEq, Repr

/-- The whole state of CORE. -/
structure State where
  /-- A, the accumulator (R21). -/
  a : Byte
  /-- X, index register X (R22). -/
  x : Byte
  /-- Y, index register Y (R23). -/
  y : Byte
  /-- SP, the stack pointer: a register no instruction uses as a pointer (R24). -/
  sp : Byte
  /-- PC, "always points at the next byte to fetch" (R25). -/
  pc : Addr
  /-- C, carry (R28). -/
  c : Bool
  /-- Z, zero (R29). -/
  z : Bool
  /-- I, interrupt-disable: a stored bit (R30). -/
  i : Bool
  /-- D, decimal: a stored bit (R31). -/
  d : Bool
  /-- B, break: a stored bit no instruction reads or writes (R32). -/
  b : Bool
  /-- V, overflow (R33). -/
  v : Bool
  /-- N, negative (R29). -/
  n : Bool
  /-- The memory (R36). -/
  mem : Memory
  /-- `cyc`, the remaining cycle budget, an unbounded integer (R43(a), R230). -/
  cyc : Int
  /-- `fault`, the sticky fault latch (R43(b), R253). -/
  fault : Option UnknownOpcode
  deriving DecidableEq, Repr

/-- Why a step stops. -/
inductive Fault
  /-- Raised by `step` alone, in a state whose fault latch is set: `execute` "does nothing" there
  (R253), so no step is taken until reset. DESIGN CHOICE (log entry 3), safe: the machine stops
  where the hardware stays put. The exception itself is a next state (R252), not this. -/
  | latched (e : UnknownOpcode)
  deriving DecidableEq, Repr

/-- Why an instruction has no meaning. -/
inductive Refusal
  /-- An instruction whose meaning is not written; raised by no arm of `exec` (every instruction of
  R85 has its meaning). Safe. -/
  | notModelled (mnemonic : String)
  deriving DecidableEq, Repr

/-- The state after `reset()` (R44, R280), the two OPEN constants of R5 as arguments. -/
def State.resetWith (sp : Byte) (pc : Addr) : State where
  a := 0x00
  x := 0x00
  y := 0x00
  sp := sp
  pc := pc
  c := false
  z := false
  i := false
  d := false
  b := false
  v := false
  n := false
  mem := []
  cyc := 0
  fault := none

/-- The machine right after reset (R44, R280), with the values the model names for `RESET_SP` and
`RESET_PC` (log entries 1 and 2). -/
def State.reset : State := State.resetWith Config.resetSP Config.resetPC

end Sys2Proof.Machine
end

