-- ==== Sys2Proof/Machine/Ops.lean ====
section
/-! DEFINITION. The named operations over memory and registers: the memory interface (R51, R52), the
register file (R9), fetching (R100), charging the cycle counter (R232), and taking the one exception
(R250 to R252). CORE has no return from an exception (R259): only reset clears the latch. -/

namespace Sys2Proof.Machine

/-! ### The memory interface -/

/-- What an address the list does not hold reads as: the reset contents (R44, "memory zeroed"). -/
def Memory.unlisted : Byte := 0x00

/-- `MemRead(addr, 1)` of R51. -/
def Memory.read (m : Memory) (addr : Addr) : Byte :=
  match m.find? fun cell => cell.1 == addr.toNat with
  | some cell => cell.2
  | none => Memory.unlisted

/-- Puts a cell before the first cell of a higher address. -/
def Memory.insert (key : Nat) (v : Byte) : Memory → Memory
  | [] => [(key, v)]
  | cell :: rest =>
    if key < cell.1 then (key, v) :: cell :: rest else cell :: Memory.insert key v rest

/-- `MemWrite(addr, 1, v)` of R52. Writing the unlisted value removes the cell, so equal memories are
equal lists. -/
def Memory.write (m : Memory) (addr : Addr) (v : Byte) : Memory :=
  let others := m.filter fun cell => cell.1 != addr.toNat
  if v = Memory.unlisted then others else Memory.insert addr.toNat v others

/-- The canonical form, from address `low` up: addresses rising, within the 65536 of R36, and no
byte equal to the unlisted value. -/
def Memory.wfFrom (low : Nat) : Memory → Bool
  | [] => true
  | cell :: rest =>
    decide (low ≤ cell.1) && decide (cell.1 < 65536) && decide (cell.2 ≠ Memory.unlisted) &&
      Memory.wfFrom (cell.1 + 1) rest

/-- The canonical form of a memory. -/
def Memory.wf (m : Memory) : Bool := Memory.wfFrom 0 m

/-- `MemWrite` on the state: no other cell and no other state changes (R52). -/
def State.memWrite (s : State) (addr : Addr) (v : Byte) : State :=
  { s with mem := s.mem.write addr v }

/-! ### The register file -/

/-- `x[r]` of R9. -/
def State.reg (s : State) : Reg → Byte
  | .a => s.a
  | .x => s.x
  | .y => s.y
  | .sp => s.sp

/-- `x[r] <- v` of R9; v is reduced modulo 256 by its width (R10). -/
def State.setReg (s : State) (r : Reg) (v : Byte) : State :=
  match r with
  | .a => { s with a := v }
  | .x => { s with x := v }
  | .y => { s with y := v }
  | .sp => { s with sp := v }

/-! ### Fetching and charging -/

/-- `Fetch8()` of R100: the byte at pc, and pc one further, modulo 65536. -/
def State.fetch8 (s : State) : Byte × State :=
  (s.mem.read s.pc, { s with pc := s.pc + 1 })

/-- pc after the `length` bytes of an instruction have been fetched (R26(a)). -/
def State.advance (s : State) (length : Nat) : State :=
  { s with pc := s.pc + BitVec.ofNat 16 length }

/-- The cost of a completed instruction, subtracted from the budget (R232). -/
def State.charge (s : State) (cost : Nat) : State :=
  { s with cyc := s.cyc - (cost : Int) }

/-- Fetching and decoding the instruction at pc: the opcode byte selects the entry (R101), which
takes the operand bytes it has (R102); none where the byte has no entry (R86). A read changes no
state (R51), so looking at the bytes here and moving pc in the meaning is one `Step()` of R232. -/
def State.fetchInstr (s : State) : Option Instr :=
  (lookup (s.mem.read s.pc)).map fun form =>
    form.build (s.mem.read (s.pc + 1)) (s.mem.read (s.pc + 2))

/-- Bytes stored at consecutive addresses, modulo 65536. -/
def State.storeBytes (s : State) (addr : Addr) : List Byte → State
  | [] => s
  | v :: rest => (s.memWrite addr v).storeBytes (addr + 1) rest

/-! ### The exception -/

/-- `raise UnknownOpcode(op, at)` at the opcode fetch, R250 to R252: pc is one past the byte, the
latch records the byte and its address, and nothing else changes; no cycle is charged, nothing is
saved or vectored (R258). -/
def State.raiseUnknownOpcode (s : State) : State :=
  { s with pc := s.pc + 1, fault := some ⟨s.mem.read s.pc, s.pc⟩ }

end Sys2Proof.Machine
end

