-- ==== Sys2Proof/Machine/Flags.lean ====
section
/-! DEFINITION. The flag register (R27): reading and writing one flag, and `SetNZ` (R120). -/

namespace Sys2Proof.Machine

/-- `f[k]` of R9. -/
def State.flag (s : State) : Flag → Bool
  | .c => s.c
  | .z => s.z
  | .i => s.i
  | .d => s.d
  | .b => s.b
  | .v => s.v
  | .n => s.n

/-- `f[k] <- bit` of R9. -/
def State.setFlag (s : State) (k : Flag) (bit : Bool) : State :=
  match k with
  | .c => { s with c := bit }
  | .z => { s with z := bit }
  | .i => { s with i := bit }
  | .d => { s with d := bit }
  | .b => { s with b := bit }
  | .v => { s with v := bit }
  | .n => { s with n := bit }

/-- "zero = result==0" (R29, R120). -/
def isZero (v : Byte) : Bool := v == 0

/-- "negative = bit 7 of result" (R29, R120). -/
def isNegative (v : Byte) : Bool := v.getLsbD 7

/-- `SetNZ(v)` of R120. -/
def State.setNZ (s : State) (v : Byte) : State :=
  { s with z := isZero v, n := isNegative v }

end Sys2Proof.Machine
end

