-- ==== Sys2Proof/Machine/Alu.lean ====
section
/-! DEFINITION. The ALU core (sub-block `alu_core`): the pure functions of R121 to R128. Each is
total and depends on its arguments only (R129); the D flag is no argument (R31). -/

namespace Sys2Proof.Machine

/-- What `Add8` returns: the 8-bit result, the carry out and the overflow (R121). -/
structure AddResult where
  result : Byte
  carry : Bool
  overflow : Bool
  deriving DecidableEq, Repr

/-- `Add8(a, m, cin)` of R121, computed on the unbounded sum 0 to 511. -/
def add8 (a m : Byte) (cin : Bool) : AddResult :=
  let sum := a.toNat + m.toNat + cin.toNat
  let r := BitVec.ofNat 8 sum
  { result := r
    carry := decide (sum > 255)
    overflow := a.getLsbD 7 == m.getLsbD 7 && r.getLsbD 7 != a.getLsbD 7 }

/-- `And8`, `Xor8` and `Or8` of R122, bit by bit. -/
def logic8 (op : LogicOp) (a m : Byte) : Byte :=
  match op with
  | .and => a &&& m
  | .eor => a ^^^ m
  | .ior => a ||| m

/-- What a shift returns: the 8-bit result and the outgoing bit (R123 to R126). -/
structure ShiftResult where
  result : Byte
  carry : Bool
  deriving DecidableEq, Repr

/-- `Asl8(m)` of R123. -/
def asl8 (m : Byte) : ShiftResult := ⟨m <<< 1, m.getLsbD 7⟩

/-- `Lsr8(m)` of R124. -/
def lsr8 (m : Byte) : ShiftResult := ⟨m >>> 1, m.getLsbD 0⟩

/-- `Rol8(m, cin)` of R125: the old carry enters bit 0. -/
def rol8 (m : Byte) (cin : Bool) : ShiftResult :=
  ⟨(m <<< 1) ||| (if cin then 0x01 else 0x00), m.getLsbD 7⟩

/-- `Ror8(m, cin)` of R126: the old carry enters bit 7. -/
def ror8 (m : Byte) (cin : Bool) : ShiftResult :=
  ⟨(m >>> 1) ||| (if cin then 0x80 else 0x00), m.getLsbD 0⟩

/-- The function of each SHIFT/ROTATE kind (R179); ASL and LSR ignore the carry. -/
def shift8 (kind : ShiftKind) (m : Byte) (cin : Bool) : ShiftResult :=
  match kind with
  | .asl => asl8 m
  | .lsr => lsr8 m
  | .rol => rol8 m cin
  | .ror => ror8 m cin

/-- `Inc8` and `Dec8` of R127, modulo 256. -/
def incDec8 (dir : Direction) (m : Byte) : Byte :=
  match dir with
  | .inc => m + 1
  | .dec => m - 1

/-- What `BitTest` returns (R128). -/
structure BitTestResult where
  zero : Bool
  overflow : Bool
  negative : Bool
  deriving DecidableEq, Repr

/-- `BitTest(a, m)` of R128: Z from the AND, V and N from bits 6 and 7 of the memory byte. -/
def bitTest8 (a m : Byte) : BitTestResult :=
  ⟨(a &&& m) == 0, m.getLsbD 6, m.getLsbD 7⟩

/-- `sext_16(d)` of R9, as a 16-bit displacement modulo 65536 (R83, R207). -/
def signExtend16 (d : Byte) : Addr := d.signExtend 16

/-- Whether two addresses have different high bytes: the page cross of a taken branch (R207). -/
def pagesDiffer (p q : Addr) : Bool := hiByte p != hiByte q

end Sys2Proof.Machine
end

