-- ==== Sys2Proof/Machine/Operands.lean ====
section
/-! DEFINITION. The addressing-mode resolver (sub-block `addressing_mode_resolver`, R102 to R115) on
decoded operands: the operand bytes stand in the operand, the index is read from the state. -/

namespace Sys2Proof.Machine

/-- An operand of the six memory modes, with the bytes the mode consumes (R106 to R111). -/
inductive MemOperand
  | zeroPage (zp8 : Byte)
  | zeroPageX (zp8 : Byte)
  | zeroPageY (zp8 : Byte)
  | absolute (addr16 : Addr)
  | absoluteX (addr16 : Addr)
  | absoluteY (addr16 : Addr)
  deriving DecidableEq, Repr

/-- A load-style operand (R114): a memory operand or IMMEDIATE (R105). -/
inductive ValueOperand
  | immediate (imm8 : Byte)
  | memory (o : MemOperand)
  deriving DecidableEq, Repr

/-- The operand of a shift (R179): ACCUMULATOR (R104) or a memory operand. -/
inductive ShiftOperand
  | accumulator
  | memory (o : MemOperand)
  deriving DecidableEq, Repr

/-- The mode tag of an operand. -/
def MemOperand.mode : MemOperand → Mode
  | .zeroPage _ => .zeroPage
  | .zeroPageX _ => .zeroPageX
  | .zeroPageY _ => .zeroPageY
  | .absolute _ => .absolute
  | .absoluteX _ => .absoluteX
  | .absoluteY _ => .absoluteY

@[inherit_doc MemOperand.mode]
def ValueOperand.mode : ValueOperand → Mode
  | .immediate _ => .immediate
  | .memory o => o.mode

@[inherit_doc MemOperand.mode]
def ShiftOperand.mode : ShiftOperand → Mode
  | .accumulator => .accumulator
  | .memory o => o.mode

/-- What the resolver gives address-style: `(ea, crossed)` of R102. -/
structure Resolved where
  ea : Addr
  crossed : Bool
  deriving DecidableEq, Repr

/-- A zero-page index sum, modulo 256, extended to 16 bits (R107, R108). -/
def indexZeroPage (zp index : Byte) : Resolved := ⟨(zp + index).setWidth 16, false⟩

/-- An absolute index sum, modulo 65536; crossed is the carry out of the low-byte addition
(R110, R111). -/
def indexAbsolute (base : Addr) (index : Byte) : Resolved :=
  ⟨base + index.setWidth 16, decide ((loByte base).toNat + index.toNat > 255)⟩

/-- `ResolveAddr(mode)` of R106 to R111. -/
def resolveAddr (o : MemOperand) (s : State) : Resolved :=
  match o with
  | .zeroPage zp8 => ⟨zp8.setWidth 16, false⟩
  | .zeroPageX zp8 => indexZeroPage zp8 s.x
  | .zeroPageY zp8 => indexZeroPage zp8 s.y
  | .absolute addr16 => ⟨addr16, false⟩
  | .absoluteX addr16 => indexAbsolute addr16 s.x
  | .absoluteY addr16 => indexAbsolute addr16 s.y

/-- The value of `ResolveValue(mode)`, R105 and R114. -/
def operandValue (o : ValueOperand) (s : State) : Byte :=
  match o with
  | .immediate imm8 => imm8
  | .memory o => s.mem.read (resolveAddr o s).ea

/-- The page-crossed flag of `ResolveValue(mode)`, R105 and R114. -/
def operandCrossed (o : ValueOperand) (s : State) : Bool :=
  match o with
  | .immediate _ => false
  | .memory o => (resolveAddr o s).crossed

end Sys2Proof.Machine
end

