-- ==== Sys2Proof/Machine/Costs.lean ====
section
/-! DEFINITION. `COST`, the cycles of every instruction: the one table of R233, a parameter of R5 with
the spec's defaults (log entry 8). -/

namespace Sys2Proof.Machine

/-- The rows of the table of R233, BRANCH apart. -/
inductive CostClass
  | load | store | adc | logical | bitTest | incDecMemory | incDecRegister | shiftRotate
  | transfer | setClearFlag | nop
  deriving DecidableEq, Repr

/-- The table of R233 without the page-cross extra. A cell the table leaves blank is 0 here and is
charged by no instruction (Laws/Costs.lean, `baseCost_pos`; log entry 8). -/
def baseCost : CostClass → Mode → Nat
  | .load, .immediate | .adc, .immediate | .logical, .immediate => 2
  | .load, .zeroPage | .store, .zeroPage | .adc, .zeroPage | .logical, .zeroPage
  | .bitTest, .zeroPage => 3
  | .load, .zeroPageX | .store, .zeroPageX | .adc, .zeroPageX | .logical, .zeroPageX => 4
  | .load, .zeroPageY | .store, .zeroPageY => 4
  | .load, .absolute | .store, .absolute | .adc, .absolute | .logical, .absolute
  | .bitTest, .absolute => 4
  | .load, .absoluteX | .store, .absoluteX | .adc, .absoluteX | .logical, .absoluteX => 4
  | .load, .absoluteY | .store, .absoluteY | .adc, .absoluteY | .logical, .absoluteY => 4
  | .incDecMemory, .zeroPage | .shiftRotate, .zeroPage => 5
  | .incDecMemory, .zeroPageX | .shiftRotate, .zeroPageX => 6
  | .incDecMemory, .absolute | .shiftRotate, .absolute => 6
  | .incDecMemory, .absoluteX | .shiftRotate, .absoluteX => 7
  | .shiftRotate, .accumulator => 2
  | .incDecRegister, .implied | .transfer, .implied | .setClearFlag, .implied
  | .nop, .implied => 2
  | _, _ => 0

/-- The `+p` of R233: which rows add 1 when the resolver's crossed flag is 1. Only ABSOLUTE_X and
ABSOLUTE_Y can cross (R112). -/
def crossCharged : CostClass → Bool
  | .load | .store | .adc | .logical => true
  | _ => false

/-- The cost of one instruction of a row and a mode, given the crossed flag (R233). -/
def cost (cls : CostClass) (m : Mode) (crossed : Bool) : Nat :=
  baseCost cls m + if crossCharged cls && crossed then 1 else 0

/-- The cost of a branch (R207, R233): 2 not taken, 3 taken, 4 taken with a page cross. -/
def branchCost (taken crossed : Bool) : Nat :=
  if taken then (if crossed then 4 else 3) else 2

end Sys2Proof.Machine
end

