-- ==== Sys2Proof/Machine/Adc.lean ====
section
/-! DEFINITION. The meanings of ADC (R160). -/

namespace Sys2Proof.Machine

/-- ADC of R160: A plus the operand plus C, binary whatever D holds (R31). -/
def adc (o : ValueOperand) (s : State) : State :=
  let sum := add8 s.a (operandValue o s) s.c
  let t := (s.advance o.mode.length).setReg .a sum.result
  (((t.setFlag .c sum.carry).setFlag .v sum.overflow).setNZ sum.result).charge
    (cost .adc o.mode (operandCrossed o s))

/-- ADC IMMEDIATE (R160). -/
def execAdcImm (imm8 : Byte) (s : State) : Host.Outcome State Fault Refusal :=
  .next (adc (.immediate imm8) s)

/-- ADC ZERO_PAGE (R160). -/
def execAdcZp (zp8 : Byte) (s : State) : Host.Outcome State Fault Refusal :=
  .next (adc (.memory (.zeroPage zp8)) s)

/-- ADC ZERO_PAGE_X (R160). -/
def execAdcZpx (zp8 : Byte) (s : State) : Host.Outcome State Fault Refusal :=
  .next (adc (.memory (.zeroPageX zp8)) s)

/-- ADC ABSOLUTE (R160). -/
def execAdcAbs (addr16 : Addr) (s : State) : Host.Outcome State Fault Refusal :=
  .next (adc (.memory (.absolute addr16)) s)

/-- ADC ABSOLUTE_X (R160). -/
def execAdcAbx (addr16 : Addr) (s : State) : Host.Outcome State Fault Refusal :=
  .next (adc (.memory (.absoluteX addr16)) s)

/-- ADC ABSOLUTE_Y (R160). -/
def execAdcAby (addr16 : Addr) (s : State) : Host.Outcome State Fault Refusal :=
  .next (adc (.memory (.absoluteY addr16)) s)

end Sys2Proof.Machine
end

