-- ==== Sys2Proof/Machine/BitTest.lean ====
section
/-! DEFINITION. The meanings of BIT (R164). -/

namespace Sys2Proof.Machine

/-- BIT of R164: Z, V and N from A and the memory byte; A and memory are not written. -/
def bitTest (o : MemOperand) (s : State) : State :=
  let resolved := resolveAddr o s
  let r := bitTest8 s.a (s.mem.read resolved.ea)
  ((((s.advance o.mode.length).setFlag .z r.zero).setFlag .v r.overflow).setFlag .n
    r.negative).charge (cost .bitTest o.mode resolved.crossed)

/-- BIT ZERO_PAGE (R164). -/
def execBitZp (zp8 : Byte) (s : State) : Host.Outcome State Fault Refusal :=
  .next (bitTest (.zeroPage zp8) s)

/-- BIT ABSOLUTE (R164). -/
def execBitAbs (addr16 : Addr) (s : State) : Host.Outcome State Fault Refusal :=
  .next (bitTest (.absolute addr16) s)

end Sys2Proof.Machine
end

