-- ==== Sys2Proof/Machine/Branch.lean ====
section
/-! DEFINITION. The meanings of the BRANCH family: BPL, BMI, BVC, BVS, BCC, BCS, BNE, BEQ (R207 to R215, R219). -/

namespace Sys2Proof.Machine

/-- `BRANCH(cond)` of R207, the condition being that the flag k equals takenWhen: the displacement is
relative to the address after the branch; the page cross compares that address with the target
(92_eei_decisions.md D12; log entry 8). -/
def branch (k : Flag) (takenWhen : Bool) (rel8 : Byte) (s : State) : State :=
  let afterBranch := s.advance 2
  let target := afterBranch.pc + signExtend16 rel8
  if s.flag k = takenWhen then
    State.charge { afterBranch with pc := target }
      (branchCost true (pagesDiffer target afterBranch.pc))
  else afterBranch.charge (branchCost false false)

/-- BPL RELATIVE (R208). -/
def execBpl (rel8 : Byte) (s : State) : Host.Outcome State Fault Refusal :=
  .next (branch .n false rel8 s)

/-- BMI RELATIVE (R209). -/
def execBmi (rel8 : Byte) (s : State) : Host.Outcome State Fault Refusal :=
  .next (branch .n true rel8 s)

/-- BVC RELATIVE (R210). -/
def execBvc (rel8 : Byte) (s : State) : Host.Outcome State Fault Refusal :=
  .next (branch .v false rel8 s)

/-- BVS RELATIVE (R211). -/
def execBvs (rel8 : Byte) (s : State) : Host.Outcome State Fault Refusal :=
  .next (branch .v true rel8 s)

/-- BCC RELATIVE (R212). -/
def execBcc (rel8 : Byte) (s : State) : Host.Outcome State Fault Refusal :=
  .next (branch .c false rel8 s)

/-- BCS RELATIVE (R213). -/
def execBcs (rel8 : Byte) (s : State) : Host.Outcome State Fault Refusal :=
  .next (branch .c true rel8 s)

/-- BNE RELATIVE (R214). -/
def execBne (rel8 : Byte) (s : State) : Host.Outcome State Fault Refusal :=
  .next (branch .z false rel8 s)

/-- BEQ RELATIVE (R215). -/
def execBeq (rel8 : Byte) (s : State) : Host.Outcome State Fault Refusal :=
  .next (branch .z true rel8 s)

end Sys2Proof.Machine
end

