-- ==== Sys2Proof/Machine/FlagOps.lean ====
section
/-! DEFINITION. The meanings of SET_FLAG and CLEAR_FLAG: CLC, SEC, CLI, SEI, CLV, CLD, SED (R199 to R206). -/

namespace Sys2Proof.Machine

/-- `SET_FLAG(k)` and `CLEAR_FLAG(k)` of R199: the one flag becomes the bit. -/
def writeFlag (k : Flag) (bit : Bool) (s : State) : State :=
  ((s.advance 1).setFlag k bit).charge (cost .setClearFlag .implied false)

/-- CLC IMPLIED (R200). -/
def execClc (s : State) : Host.Outcome State Fault Refusal :=
  .next (writeFlag .c false s)

/-- SEC IMPLIED (R201). -/
def execSec (s : State) : Host.Outcome State Fault Refusal :=
  .next (writeFlag .c true s)

/-- CLI IMPLIED (R202). -/
def execCli (s : State) : Host.Outcome State Fault Refusal :=
  .next (writeFlag .i false s)

/-- SEI IMPLIED (R203). -/
def execSei (s : State) : Host.Outcome State Fault Refusal :=
  .next (writeFlag .i true s)

/-- CLV IMPLIED (R204). -/
def execClv (s : State) : Host.Outcome State Fault Refusal :=
  .next (writeFlag .v false s)

/-- CLD IMPLIED (R205). -/
def execCld (s : State) : Host.Outcome State Fault Refusal :=
  .next (writeFlag .d false s)

/-- SED IMPLIED (R206). -/
def execSed (s : State) : Host.Outcome State Fault Refusal :=
  .next (writeFlag .d true s)

end Sys2Proof.Machine
end

