-- ==== Sys2Proof/Machine/IncDec.lean ====
section
/-! DEFINITION. The meanings of the INC/DEC family: INC, DEC, INX, INY, DEX, DEY (R178, R180 to R185). -/

namespace Sys2Proof.Machine

/-- `INCDEC(dir, memory)` of R178: one read, one write of the same address; Z and N follow the byte
written; C, V and every register keep their values. -/
def incDecMemory (dir : Direction) (o : MemOperand) (s : State) : State :=
  let resolved := resolveAddr o s
  let r := incDec8 dir (s.mem.read resolved.ea)
  (((s.advance o.mode.length).memWrite resolved.ea r).setNZ r).charge
    (cost .incDecMemory o.mode resolved.crossed)

/-- `INCDEC(dir, reg)` of R178. -/
def incDecRegister (dir : Direction) (r : Reg) (s : State) : State :=
  let v := incDec8 dir (s.reg r)
  (((s.advance 1).setReg r v).setNZ v).charge (cost .incDecRegister .implied false)

/-- INC ZERO_PAGE (R180). -/
def execIncZp (zp8 : Byte) (s : State) : Host.Outcome State Fault Refusal :=
  .next (incDecMemory .inc (.zeroPage zp8) s)

/-- INC ZERO_PAGE_X (R180). -/
def execIncZpx (zp8 : Byte) (s : State) : Host.Outcome State Fault Refusal :=
  .next (incDecMemory .inc (.zeroPageX zp8) s)

/-- INC ABSOLUTE (R180). -/
def execIncAbs (addr16 : Addr) (s : State) : Host.Outcome State Fault Refusal :=
  .next (incDecMemory .inc (.absolute addr16) s)

/-- INC ABSOLUTE_X (R180). -/
def execIncAbx (addr16 : Addr) (s : State) : Host.Outcome State Fault Refusal :=
  .next (incDecMemory .inc (.absoluteX addr16) s)

/-- DEC ZERO_PAGE (R181). -/
def execDecZp (zp8 : Byte) (s : State) : Host.Outcome State Fault Refusal :=
  .next (incDecMemory .dec (.zeroPage zp8) s)

/-- DEC ZERO_PAGE_X (R181). -/
def execDecZpx (zp8 : Byte) (s : State) : Host.Outcome State Fault Refusal :=
  .next (incDecMemory .dec (.zeroPageX zp8) s)

/-- DEC ABSOLUTE (R181). -/
def execDecAbs (addr16 : Addr) (s : State) : Host.Outcome State Fault Refusal :=
  .next (incDecMemory .dec (.absolute addr16) s)

/-- DEC ABSOLUTE_X (R181). -/
def execDecAbx (addr16 : Addr) (s : State) : Host.Outcome State Fault Refusal :=
  .next (incDecMemory .dec (.absoluteX addr16) s)

/-- INX IMPLIED (R182). -/
def execInx (s : State) : Host.Outcome State Fault Refusal :=
  .next (incDecRegister .inc .x s)

/-- INY IMPLIED (R183). -/
def execIny (s : State) : Host.Outcome State Fault Refusal :=
  .next (incDecRegister .inc .y s)

/-- DEX IMPLIED (R184). -/
def execDex (s : State) : Host.Outcome State Fault Refusal :=
  .next (incDecRegister .dec .x s)

/-- DEY IMPLIED (R185). -/
def execDey (s : State) : Host.Outcome State Fault Refusal :=
  .next (incDecRegister .dec .y s)

end Sys2Proof.Machine
end

