-- ==== Sys2Proof/Machine/Load.lean ====
section
/-! DEFINITION. The meanings of the LOAD family: LDA, LDX, LDY (R137, R140 to R142). -/

namespace Sys2Proof.Machine

/-- `LOAD(reg, mode)` of R137: the resolved operand goes into the register, Z and N follow it, and
nothing else changes. -/
def load (r : Reg) (o : ValueOperand) (s : State) : State :=
  let v := operandValue o s
  (((s.advance o.mode.length).setReg r v).setNZ v).charge (cost .load o.mode (operandCrossed o s))

/-- LDA IMMEDIATE (R140). -/
def execLdaImm (imm8 : Byte) (s : State) : Host.Outcome State Fault Refusal :=
  .next (load .a (.immediate imm8) s)

/-- LDA ZERO_PAGE (R140). -/
def execLdaZp (zp8 : Byte) (s : State) : Host.Outcome State Fault Refusal :=
  .next (load .a (.memory (.zeroPage zp8)) s)

/-- LDA ZERO_PAGE_X (R140). -/
def execLdaZpx (zp8 : Byte) (s : State) : Host.Outcome State Fault Refusal :=
  .next (load .a (.memory (.zeroPageX zp8)) s)

/-- LDA ABSOLUTE (R140). -/
def execLdaAbs (addr16 : Addr) (s : State) : Host.Outcome State Fault Refusal :=
  .next (load .a (.memory (.absolute addr16)) s)

/-- LDA ABSOLUTE_X (R140). -/
def execLdaAbx (addr16 : Addr) (s : State) : Host.Outcome State Fault Refusal :=
  .next (load .a (.memory (.absoluteX addr16)) s)

/-- LDA ABSOLUTE_Y (R140). -/
def execLdaAby (addr16 : Addr) (s : State) : Host.Outcome State Fault Refusal :=
  .next (load .a (.memory (.absoluteY addr16)) s)

/-- LDX IMMEDIATE (R141). -/
def execLdxImm (imm8 : Byte) (s : State) : Host.Outcome State Fault Refusal :=
  .next (load .x (.immediate imm8) s)

/-- LDX ZERO_PAGE (R141). -/
def execLdxZp (zp8 : Byte) (s : State) : Host.Outcome State Fault Refusal :=
  .next (load .x (.memory (.zeroPage zp8)) s)

/-- LDX ZERO_PAGE_Y (R141). -/
def execLdxZpy (zp8 : Byte) (s : State) : Host.Outcome State Fault Refusal :=
  .next (load .x (.memory (.zeroPageY zp8)) s)

/-- LDX ABSOLUTE (R141). -/
def execLdxAbs (addr16 : Addr) (s : State) : Host.Outcome State Fault Refusal :=
  .next (load .x (.memory (.absolute addr16)) s)

/-- LDX ABSOLUTE_Y (R141). -/
def execLdxAby (addr16 : Addr) (s : State) : Host.Outcome State Fault Refusal :=
  .next (load .x (.memory (.absoluteY addr16)) s)

/-- LDY IMMEDIATE (R142). -/
def execLdyImm (imm8 : Byte) (s : State) : Host.Outcome State Fault Refusal :=
  .next (load .y (.immediate imm8) s)

/-- LDY ZERO_PAGE (R142). -/
def execLdyZp (zp8 : Byte) (s : State) : Host.Outcome State Fault Refusal :=
  .next (load .y (.memory (.zeroPage zp8)) s)

/-- LDY ZERO_PAGE_X (R142). -/
def execLdyZpx (zp8 : Byte) (s : State) : Host.Outcome State Fault Refusal :=
  .next (load .y (.memory (.zeroPageX zp8)) s)

/-- LDY ABSOLUTE (R142). -/
def execLdyAbs (addr16 : Addr) (s : State) : Host.Outcome State Fault Refusal :=
  .next (load .y (.memory (.absolute addr16)) s)

/-- LDY ABSOLUTE_X (R142). -/
def execLdyAbx (addr16 : Addr) (s : State) : Host.Outcome State Fault Refusal :=
  .next (load .y (.memory (.absoluteX addr16)) s)

end Sys2Proof.Machine
end

