-- ==== Sys2Proof/Machine/Logical.lean ====
section
/-! DEFINITION. The meanings of the LOGICAL family: AND, EOR, ORA (R159, R161 to R163). -/

namespace Sys2Proof.Machine

/-- `LOGICAL(op, mode)` of R159: A becomes the bitwise result, Z and N follow it, C and V keep their
values. -/
def logical (op : LogicOp) (o : ValueOperand) (s : State) : State :=
  let r := logic8 op s.a (operandValue o s)
  (((s.advance o.mode.length).setReg .a r).setNZ r).charge
    (cost .logical o.mode (operandCrossed o s))

/-- AND IMMEDIATE (R161). -/
def execAndImm (imm8 : Byte) (s : State) : Host.Outcome State Fault Refusal :=
  .next (logical .and (.immediate imm8) s)

/-- AND ZERO_PAGE (R161). -/
def execAndZp (zp8 : Byte) (s : State) : Host.Outcome State Fault Refusal :=
  .next (logical .and (.memory (.zeroPage zp8)) s)

/-- AND ZERO_PAGE_X (R161). -/
def execAndZpx (zp8 : Byte) (s : State) : Host.Outcome State Fault Refusal :=
  .next (logical .and (.memory (.zeroPageX zp8)) s)

/-- AND ABSOLUTE (R161). -/
def execAndAbs (addr16 : Addr) (s : State) : Host.Outcome State Fault Refusal :=
  .next (logical .and (.memory (.absolute addr16)) s)

/-- AND ABSOLUTE_X (R161). -/
def execAndAbx (addr16 : Addr) (s : State) : Host.Outcome State Fault Refusal :=
  .next (logical .and (.memory (.absoluteX addr16)) s)

/-- AND ABSOLUTE_Y (R161). -/
def execAndAby (addr16 : Addr) (s : State) : Host.Outcome State Fault Refusal :=
  .next (logical .and (.memory (.absoluteY addr16)) s)

/-- EOR IMMEDIATE (R162). -/
def execEorImm (imm8 : Byte) (s : State) : Host.Outcome State Fault Refusal :=
  .next (logical .eor (.immediate imm8) s)

/-- EOR ZERO_PAGE (R162). -/
def execEorZp (zp8 : Byte) (s : State) : Host.Outcome State Fault Refusal :=
  .next (logical .eor (.memory (.zeroPage zp8)) s)

/-- EOR ZERO_PAGE_X (R162). -/
def execEorZpx (zp8 : Byte) (s : State) : Host.Outcome State Fault Refusal :=
  .next (logical .eor (.memory (.zeroPageX zp8)) s)

/-- EOR ABSOLUTE (R162). -/
def execEorAbs (addr16 : Addr) (s : State) : Host.Outcome State Fault Refusal :=
  .next (logical .eor (.memory (.absolute addr16)) s)

/-- EOR ABSOLUTE_X (R162). -/
def execEorAbx (addr16 : Addr) (s : State) : Host.Outcome State Fault Refusal :=
  .next (logical .eor (.memory (.absoluteX addr16)) s)

/-- EOR ABSOLUTE_Y (R162). -/
def execEorAby (addr16 : Addr) (s : State) : Host.Outcome State Fault Refusal :=
  .next (logical .eor (.memory (.absoluteY addr16)) s)

/-- ORA IMMEDIATE (R163). -/
def execOraImm (imm8 : Byte) (s : State) : Host.Outcome State Fault Refusal :=
  .next (logical .ior (.immediate imm8) s)

/-- ORA ZERO_PAGE (R163). -/
def execOraZp (zp8 : Byte) (s : State) : Host.Outcome State Fault Refusal :=
  .next (logical .ior (.memory (.zeroPage zp8)) s)

/-- ORA ZERO_PAGE_X (R163). -/
def execOraZpx (zp8 : Byte) (s : State) : Host.Outcome State Fault Refusal :=
  .next (logical .ior (.memory (.zeroPageX zp8)) s)

/-- ORA ABSOLUTE (R163). -/
def execOraAbs (addr16 : Addr) (s : State) : Host.Outcome State Fault Refusal :=
  .next (logical .ior (.memory (.absolute addr16)) s)

/-- ORA ABSOLUTE_X (R163). -/
def execOraAbx (addr16 : Addr) (s : State) : Host.Outcome State Fault Refusal :=
  .next (logical .ior (.memory (.absoluteX addr16)) s)

/-- ORA ABSOLUTE_Y (R163). -/
def execOraAby (addr16 : Addr) (s : State) : Host.Outcome State Fault Refusal :=
  .next (logical .ior (.memory (.absoluteY addr16)) s)

end Sys2Proof.Machine
end

