-- ==== Sys2Proof/Machine/Nop.lean ====
section
/-! DEFINITION. The meanings of NOP (R216). -/

namespace Sys2Proof.Machine

/-- NOP of R216: "cost 2, no state change" other than pc and the budget. -/
def nop (s : State) : State := (s.advance 1).charge (cost .nop .implied false)

/-- NOP IMPLIED (R216). -/
def execNop (s : State) : Host.Outcome State Fault Refusal :=
  .next (nop s)

end Sys2Proof.Machine
end

