-- ==== Sys2Proof/Machine/Shift.lean ====
section
/-! DEFINITION. The meanings of the SHIFT/ROTATE family: ASL, LSR, ROL, ROR (R179, R186 to R189). -/

namespace Sys2Proof.Machine

/-- The byte a shift reads: A, or the byte at the effective address (R179). -/
def shiftSource (o : ShiftOperand) (s : State) : Byte :=
  match o with
  | .accumulator => s.a
  | .memory m => s.mem.read (resolveAddr m s).ea

/-- The result goes back where the byte came from; a memory form does not write A (R179). -/
def writeShifted (o : ShiftOperand) (v : Byte) (s : State) : State :=
  match o with
  | .accumulator => s.setReg .a v
  | .memory m => s.memWrite (resolveAddr m s).ea v

/-- `SHIFT(kind, mode)` of R179: C is the outgoing bit, a rotate takes the carry from before the
instruction, Z and N follow the result; no page-cross extra. -/
def shift (kind : ShiftKind) (o : ShiftOperand) (s : State) : State :=
  let r := shift8 kind (shiftSource o s) s.c
  ((((writeShifted o r.result s).advance o.mode.length).setFlag .c r.carry).setNZ r.result).charge
    (cost .shiftRotate o.mode false)

/-- ASL ACCUMULATOR (R186). -/
def execAslAcc (s : State) : Host.Outcome State Fault Refusal :=
  .next (shift .asl .accumulator s)

/-- ASL ZERO_PAGE (R186). -/
def execAslZp (zp8 : Byte) (s : State) : Host.Outcome State Fault Refusal :=
  .next (shift .asl (.memory (.zeroPage zp8)) s)

/-- ASL ZERO_PAGE_X (R186). -/
def execAslZpx (zp8 : Byte) (s : State) : Host.Outcome State Fault Refusal :=
  .next (shift .asl (.memory (.zeroPageX zp8)) s)

/-- ASL ABSOLUTE (R186). -/
def execAslAbs (addr16 : Addr) (s : State) : Host.Outcome State Fault Refusal :=
  .next (shift .asl (.memory (.absolute addr16)) s)

/-- ASL ABSOLUTE_X (R186). -/
def execAslAbx (addr16 : Addr) (s : State) : Host.Outcome State Fault Refusal :=
  .next (shift .asl (.memory (.absoluteX addr16)) s)

/-- LSR ACCUMULATOR (R187). -/
def execLsrAcc (s : State) : Host.Outcome State Fault Refusal :=
  .next (shift .lsr .accumulator s)

/-- LSR ZERO_PAGE (R187). -/
def execLsrZp (zp8 : Byte) (s : State) : Host.Outcome State Fault Refusal :=
  .next (shift .lsr (.memory (.zeroPage zp8)) s)

/-- LSR ZERO_PAGE_X (R187). -/
def execLsrZpx (zp8 : Byte) (s : State) : Host.Outcome State Fault Refusal :=
  .next (shift .lsr (.memory (.zeroPageX zp8)) s)

/-- LSR ABSOLUTE (R187). -/
def execLsrAbs (addr16 : Addr) (s : State) : Host.Outcome State Fault Refusal :=
  .next (shift .lsr (.memory (.absolute addr16)) s)

/-- LSR ABSOLUTE_X (R187). -/
def execLsrAbx (addr16 : Addr) (s : State) : Host.Outcome State Fault Refusal :=
  .next (shift .lsr (.memory (.absoluteX addr16)) s)

/-- ROL ACCUMULATOR (R188). -/
def execRolAcc (s : State) : Host.Outcome State Fault Refusal :=
  .next (shift .rol .accumulator s)

/-- ROL ZERO_PAGE (R188). -/
def execRolZp (zp8 : Byte) (s : State) : Host.Outcome State Fault Refusal :=
  .next (shift .rol (.memory (.zeroPage zp8)) s)

/-- ROL ZERO_PAGE_X (R188). -/
def execRolZpx (zp8 : Byte) (s : State) : Host.Outcome State Fault Refusal :=
  .next (shift .rol (.memory (.zeroPageX zp8)) s)

/-- ROL ABSOLUTE (R188). -/
def execRolAbs (addr16 : Addr) (s : State) : Host.Outcome State Fault Refusal :=
  .next (shift .rol (.memory (.absolute addr16)) s)

/-- ROL ABSOLUTE_X (R188). -/
def execRolAbx (addr16 : Addr) (s : State) : Host.Outcome State Fault Refusal :=
  .next (shift .rol (.memory (.absoluteX addr16)) s)

/-- ROR ACCUMULATOR (R189). -/
def execRorAcc (s : State) : Host.Outcome State Fault Refusal :=
  .next (shift .ror .accumulator s)

/-- ROR ZERO_PAGE (R189). -/
def execRorZp (zp8 : Byte) (s : State) : Host.Outcome State Fault Refusal :=
  .next (shift .ror (.memory (.zeroPage zp8)) s)

/-- ROR ZERO_PAGE_X (R189). -/
def execRorZpx (zp8 : Byte) (s : State) : Host.Outcome State Fault Refusal :=
  .next (shift .ror (.memory (.zeroPageX zp8)) s)

/-- ROR ABSOLUTE (R189). -/
def execRorAbs (addr16 : Addr) (s : State) : Host.Outcome State Fault Refusal :=
  .next (shift .ror (.memory (.absolute addr16)) s)

/-- ROR ABSOLUTE_X (R189). -/
def execRorAbx (addr16 : Addr) (s : State) : Host.Outcome State Fault Refusal :=
  .next (shift .ror (.memory (.absoluteX addr16)) s)

end Sys2Proof.Machine
end

