-- ==== Sys2Proof/Machine/Store.lean ====
section
/-! DEFINITION. The meanings of the STORE family: STA, STX, STY (R138, R143 to R145). -/

namespace Sys2Proof.Machine

/-- `STORE(reg, mode)` of R138: the register goes to the resolved address; no flag and no register is
written and the old byte is not read. The page-cross extra of an absolute-indexed store is the
spec's reading (92_eei_decisions.md D10). -/
def store (r : Reg) (o : MemOperand) (s : State) : State :=
  let resolved := resolveAddr o s
  ((s.advance o.mode.length).memWrite resolved.ea (s.reg r)).charge (cost .store o.mode resolved.crossed)

/-- STA ZERO_PAGE (R143). -/
def execStaZp (zp8 : Byte) (s : State) : Host.Outcome State Fault Refusal :=
  .next (store .a (.zeroPage zp8) s)

/-- STA ZERO_PAGE_X (R143). -/
def execStaZpx (zp8 : Byte) (s : State) : Host.Outcome State Fault Refusal :=
  .next (store .a (.zeroPageX zp8) s)

/-- STA ABSOLUTE (R143). -/
def execStaAbs (addr16 : Addr) (s : State) : Host.Outcome State Fault Refusal :=
  .next (store .a (.absolute addr16) s)

/-- STA ABSOLUTE_X (R143). -/
def execStaAbx (addr16 : Addr) (s : State) : Host.Outcome State Fault Refusal :=
  .next (store .a (.absoluteX addr16) s)

/-- STA ABSOLUTE_Y (R143). -/
def execStaAby (addr16 : Addr) (s : State) : Host.Outcome State Fault Refusal :=
  .next (store .a (.absoluteY addr16) s)

/-- STX ZERO_PAGE (R144). -/
def execStxZp (zp8 : Byte) (s : State) : Host.Outcome State Fault Refusal :=
  .next (store .x (.zeroPage zp8) s)

/-- STX ZERO_PAGE_Y (R144). -/
def execStxZpy (zp8 : Byte) (s : State) : Host.Outcome State Fault Refusal :=
  .next (store .x (.zeroPageY zp8) s)

/-- STX ABSOLUTE (R144). -/
def execStxAbs (addr16 : Addr) (s : State) : Host.Outcome State Fault Refusal :=
  .next (store .x (.absolute addr16) s)

/-- STY ZERO_PAGE (R145). -/
def execStyZp (zp8 : Byte) (s : State) : Host.Outcome State Fault Refusal :=
  .next (store .y (.zeroPage zp8) s)

/-- STY ZERO_PAGE_X (R145). -/
def execStyZpx (zp8 : Byte) (s : State) : Host.Outcome State Fault Refusal :=
  .next (store .y (.zeroPageX zp8) s)

/-- STY ABSOLUTE (R145). -/
def execStyAbs (addr16 : Addr) (s : State) : Host.Outcome State Fault Refusal :=
  .next (store .y (.absolute addr16) s)

end Sys2Proof.Machine
end

