-- ==== Sys2Proof/Machine/Transfer.lean ====
section
/-! DEFINITION. The meanings of the TRANSFER family: TAX, TAY, TXA, TYA, TSX, TXS (R139, R146 to R151). -/

namespace Sys2Proof.Machine

/-- `TRANSFER(src, dst)` of R139: dst = src, Z and N follow dst, TXS included
(92_eei_decisions.md D3; log entry 9). -/
def transfer (src dst : Reg) (s : State) : State :=
  let v := s.reg src
  (((s.advance 1).setReg dst v).setNZ v).charge (cost .transfer .implied false)

/-- TAX IMPLIED (R146). -/
def execTax (s : State) : Host.Outcome State Fault Refusal :=
  .next (transfer .a .x s)

/-- TAY IMPLIED (R147). -/
def execTay (s : State) : Host.Outcome State Fault Refusal :=
  .next (transfer .a .y s)

/-- TXA IMPLIED (R148). -/
def execTxa (s : State) : Host.Outcome State Fault Refusal :=
  .next (transfer .x .a s)

/-- TYA IMPLIED (R149). -/
def execTya (s : State) : Host.Outcome State Fault Refusal :=
  .next (transfer .y .a s)

/-- TSX IMPLIED (R150). -/
def execTsx (s : State) : Host.Outcome State Fault Refusal :=
  .next (transfer .sp .x s)

/-- TXS IMPLIED (R151). -/
def execTxs (s : State) : Host.Outcome State Fault Refusal :=
  .next (transfer .x .sp s)

end Sys2Proof.Machine
end

