-- ==== Sys2Proof/Machine/Dispatch.lean ====
section
/-! DEFINITION. The dispatch of an instruction to its meaning (`Exec(d)` of R232): one arm for each
constructor. -/

namespace Sys2Proof.Machine

def exec (i : Instr) (s : State) : Host.Outcome State Fault Refusal :=
  match i with
  -- the LOAD family: LDA, LDX, LDY (R137, R140 to R142)
  | .ldaImm imm8 => Sys2Proof.Machine.execLdaImm imm8 s
  | .ldaZp zp8 => Sys2Proof.Machine.execLdaZp zp8 s
  | .ldaZpx zp8 => Sys2Proof.Machine.execLdaZpx zp8 s
  | .ldaAbs addr16 => Sys2Proof.Machine.execLdaAbs addr16 s
  | .ldaAbx addr16 => Sys2Proof.Machine.execLdaAbx addr16 s
  | .ldaAby addr16 => Sys2Proof.Machine.execLdaAby addr16 s
  | .ldxImm imm8 => Sys2Proof.Machine.execLdxImm imm8 s
  | .ldxZp zp8 => Sys2Proof.Machine.execLdxZp zp8 s
  | .ldxZpy zp8 => Sys2Proof.Machine.execLdxZpy zp8 s
  | .ldxAbs addr16 => Sys2Proof.Machine.execLdxAbs addr16 s
  | .ldxAby addr16 => Sys2Proof.Machine.execLdxAby addr16 s
  | .ldyImm imm8 => Sys2Proof.Machine.execLdyImm imm8 s
  | .ldyZp zp8 => Sys2Proof.Machine.execLdyZp zp8 s
  | .ldyZpx zp8 => Sys2Proof.Machine.execLdyZpx zp8 s
  | .ldyAbs addr16 => Sys2Proof.Machine.execLdyAbs addr16 s
  | .ldyAbx addr16 => Sys2Proof.Machine.execLdyAbx addr16 s
  -- the STORE family: STA, STX, STY (R138, R143 to R145)
  | .staZp zp8 => Sys2Proof.Machine.execStaZp zp8 s
  | .staZpx zp8 => Sys2Proof.Machine.execStaZpx zp8 s
  | .staAbs addr16 => Sys2Proof.Machine.execStaAbs addr16 s
  | .staAbx addr16 => Sys2Proof.Machine.execStaAbx addr16 s
  | .staAby addr16 => Sys2Proof.Machine.execStaAby addr16 s
  | .stxZp zp8 => Sys2Proof.Machine.execStxZp zp8 s
  | .stxZpy zp8 => Sys2Proof.Machine.execStxZpy zp8 s
  | .stxAbs addr16 => Sys2Proof.Machine.execStxAbs addr16 s
  | .styZp zp8 => Sys2Proof.Machine.execStyZp zp8 s
  | .styZpx zp8 => Sys2Proof.Machine.execStyZpx zp8 s
  | .styAbs addr16 => Sys2Proof.Machine.execStyAbs addr16 s
  -- the TRANSFER family: TAX, TAY, TXA, TYA, TSX, TXS (R139, R146 to R151)
  | .tax => Sys2Proof.Machine.execTax s
  | .tay => Sys2Proof.Machine.execTay s
  | .txa => Sys2Proof.Machine.execTxa s
  | .tya => Sys2Proof.Machine.execTya s
  | .tsx => Sys2Proof.Machine.execTsx s
  | .txs => Sys2Proof.Machine.execTxs s
  -- ADC (R160)
  | .adcImm imm8 => Sys2Proof.Machine.execAdcImm imm8 s
  | .adcZp zp8 => Sys2Proof.Machine.execAdcZp zp8 s
  | .adcZpx zp8 => Sys2Proof.Machine.execAdcZpx zp8 s
  | .adcAbs addr16 => Sys2Proof.Machine.execAdcAbs addr16 s
  | .adcAbx addr16 => Sys2Proof.Machine.execAdcAbx addr16 s
  | .adcAby addr16 => Sys2Proof.Machine.execAdcAby addr16 s
  -- the LOGICAL family: AND, EOR, ORA (R159, R161 to R163)
  | .andImm imm8 => Sys2Proof.Machine.execAndImm imm8 s
  | .andZp zp8 => Sys2Proof.Machine.execAndZp zp8 s
  | .andZpx zp8 => Sys2Proof.Machine.execAndZpx zp8 s
  | .andAbs addr16 => Sys2Proof.Machine.execAndAbs addr16 s
  | .andAbx addr16 => Sys2Proof.Machine.execAndAbx addr16 s
  | .andAby addr16 => Sys2Proof.Machine.execAndAby addr16 s
  | .eorImm imm8 => Sys2Proof.Machine.execEorImm imm8 s
  | .eorZp zp8 => Sys2Proof.Machine.execEorZp zp8 s
  | .eorZpx zp8 => Sys2Proof.Machine.execEorZpx zp8 s
  | .eorAbs addr16 => Sys2Proof.Machine.execEorAbs addr16 s
  | .eorAbx addr16 => Sys2Proof.Machine.execEorAbx addr16 s
  | .eorAby addr16 => Sys2Proof.Machine.execEorAby addr16 s
  | .oraImm imm8 => Sys2Proof.Machine.execOraImm imm8 s
  | .oraZp zp8 => Sys2Proof.Machine.execOraZp zp8 s
  | .oraZpx zp8 => Sys2Proof.Machine.execOraZpx zp8 s
  | .oraAbs addr16 => Sys2Proof.Machine.execOraAbs addr16 s
  | .oraAbx addr16 => Sys2Proof.Machine.execOraAbx addr16 s
  | .oraAby addr16 => Sys2Proof.Machine.execOraAby addr16 s
  -- BIT (R164)
  | .bitZp zp8 => Sys2Proof.Machine.execBitZp zp8 s
  | .bitAbs addr16 => Sys2Proof.Machine.execBitAbs addr16 s
  -- the INC/DEC family: INC, DEC, INX, INY, DEX, DEY (R178, R180 to R185)
  | .incZp zp8 => Sys2Proof.Machine.execIncZp zp8 s
  | .incZpx zp8 => Sys2Proof.Machine.execIncZpx zp8 s
  | .incAbs addr16 => Sys2Proof.Machine.execIncAbs addr16 s
  | .incAbx addr16 => Sys2Proof.Machine.execIncAbx addr16 s
  | .decZp zp8 => Sys2Proof.Machine.execDecZp zp8 s
  | .decZpx zp8 => Sys2Proof.Machine.execDecZpx zp8 s
  | .decAbs addr16 => Sys2Proof.Machine.execDecAbs addr16 s
  | .decAbx addr16 => Sys2Proof.Machine.execDecAbx addr16 s
  | .inx => Sys2Proof.Machine.execInx s
  | .iny => Sys2Proof.Machine.execIny s
  | .dex => Sys2Proof.Machine.execDex s
  | .dey => Sys2Proof.Machine.execDey s
  -- the SHIFT/ROTATE family: ASL, LSR, ROL, ROR (R179, R186 to R189)
  | .aslAcc => Sys2Proof.Machine.execAslAcc s
  | .aslZp zp8 => Sys2Proof.Machine.execAslZp zp8 s
  | .aslZpx zp8 => Sys2Proof.Machine.execAslZpx zp8 s
  | .aslAbs addr16 => Sys2Proof.Machine.execAslAbs addr16 s
  | .aslAbx addr16 => Sys2Proof.Machine.execAslAbx addr16 s
  | .lsrAcc => Sys2Proof.Machine.execLsrAcc s
  | .lsrZp zp8 => Sys2Proof.Machine.execLsrZp zp8 s
  | .lsrZpx zp8 => Sys2Proof.Machine.execLsrZpx zp8 s
  | .lsrAbs addr16 => Sys2Proof.Machine.execLsrAbs addr16 s
  | .lsrAbx addr16 => Sys2Proof.Machine.execLsrAbx addr16 s
  | .rolAcc => Sys2Proof.Machine.execRolAcc s
  | .rolZp zp8 => Sys2Proof.Machine.execRolZp zp8 s
  | .rolZpx zp8 => Sys2Proof.Machine.execRolZpx zp8 s
  | .rolAbs addr16 => Sys2Proof.Machine.execRolAbs addr16 s
  | .rolAbx addr16 => Sys2Proof.Machine.execRolAbx addr16 s
  | .rorAcc => Sys2Proof.Machine.execRorAcc s
  | .rorZp zp8 => Sys2Proof.Machine.execRorZp zp8 s
  | .rorZpx zp8 => Sys2Proof.Machine.execRorZpx zp8 s
  | .rorAbs addr16 => Sys2Proof.Machine.execRorAbs addr16 s
  | .rorAbx addr16 => Sys2Proof.Machine.execRorAbx addr16 s
  -- SET_FLAG and CLEAR_FLAG: CLC, SEC, CLI, SEI, CLV, CLD, SED (R199 to R206)
  | .clc => Sys2Proof.Machine.execClc s
  | .sec => Sys2Proof.Machine.execSec s
  | .cli => Sys2Proof.Machine.execCli s
  | .sei => Sys2Proof.Machine.execSei s
  | .clv => Sys2Proof.Machine.execClv s
  | .cld => Sys2Proof.Machine.execCld s
  | .sed => Sys2Proof.Machine.execSed s
  -- the BRANCH family: BPL, BMI, BVC, BVS, BCC, BCS, BNE, BEQ (R207 to R215, R219)
  | .bpl rel8 => Sys2Proof.Machine.execBpl rel8 s
  | .bmi rel8 => Sys2Proof.Machine.execBmi rel8 s
  | .bvc rel8 => Sys2Proof.Machine.execBvc rel8 s
  | .bvs rel8 => Sys2Proof.Machine.execBvs rel8 s
  | .bcc rel8 => Sys2Proof.Machine.execBcc rel8 s
  | .bcs rel8 => Sys2Proof.Machine.execBcs rel8 s
  | .bne rel8 => Sys2Proof.Machine.execBne rel8 s
  | .beq rel8 => Sys2Proof.Machine.execBeq rel8 s
  -- NOP (R216)
  | .nop => Sys2Proof.Machine.execNop s

end Sys2Proof.Machine
end

