-- ==== Sys2Proof/Machine/Step.lean ====
section
/-! DEFINITION. `Step()` of R232, one whole instruction or the one exception, and how the host places
an instruction where the next step fetches. -/

namespace Sys2Proof.Machine

/-- `Step()` of R232: fetch, decode, execute, charge; or raise UnknownOpcode (R250), which is a next
state with the latch set (R252). The budget is not looked at here: `execute` tests it between steps
(R231; log entry 3). With the latch set no step exists (R253), and the machine answers its one fault
(log entry 3). -/
def step (s : State) : Host.Outcome State Fault Refusal :=
  match s.fault with
  | some e => .fault (.latched e)
  | none =>
    match s.fetchInstr with
    | none => .next s.raiseUnknownOpcode
    | some i => exec i s

/-- The instruction of the word `w` of `nbits` bits stored at pc, as the host loads a program with
`set_memory` (R284), and the latch clear, which a step needs (R253; log entry 4). -/
def State.withFetchWord (s : State) (nbits w : Nat) : State :=
  { s.storeBytes s.pc (wordBytes nbits w) with fault := none }

end Sys2Proof.Machine
end

