-- ==== Sys2Proof/Machine/Pseudocode.lean ====
section
/-! DEFINITION. The spec's own pseudocode, transcribed as it stands: `Step()` of R232 and the families of
files 41 to 44, driven by the descriptor of R101, fetching each operand byte with `Fetch8()` and
computing addresses with the `mod` of the rules. It is a second design of the machine, beside the
one that decodes to `Instr`; a statement says that the two agree. -/

namespace Sys2Proof.Machine.Pseudocode

/-- `ResolveAddr(mode)`, R106 to R111: `(ea, crossed)` and the state after the fetches; none for a
mode without an effective address. -/
def resolveAddr (mode : Mode) (s : State) : Option ((Addr × Bool) × State) :=
  match mode with
  | .zeroPage =>
    let (zp, s) := s.fetch8
    some ((BitVec.ofNat 16 zp.toNat, false), s)
  | .zeroPageX =>
    let (zp, s) := s.fetch8
    some ((BitVec.ofNat 16 ((zp.toNat + s.x.toNat) % 256), false), s)
  | .zeroPageY =>
    let (zp, s) := s.fetch8
    some ((BitVec.ofNat 16 ((zp.toNat + s.y.toNat) % 256), false), s)
  | .absolute =>
    let (lo, s) := s.fetch8
    let (hi, s) := s.fetch8
    some ((BitVec.ofNat 16 (hi.toNat * 256 + lo.toNat), false), s)
  | .absoluteX =>
    let (lo, s) := s.fetch8
    let (hi, s) := s.fetch8
    let base := hi.toNat * 256 + lo.toNat
    some ((BitVec.ofNat 16 ((base + s.x.toNat) % 65536), decide (lo.toNat + s.x.toNat > 255)), s)
  | .absoluteY =>
    let (lo, s) := s.fetch8
    let (hi, s) := s.fetch8
    let base := hi.toNat * 256 + lo.toNat
    some ((BitVec.ofNat 16 ((base + s.y.toNat) % 65536), decide (lo.toNat + s.y.toNat > 255)), s)
  | .implied | .accumulator | .immediate | .relative => none

/-- `ResolveValue(mode)`, R105 and R114. -/
def resolveValue (mode : Mode) (s : State) : Option ((Byte × Bool) × State) :=
  match mode with
  | .immediate =>
    let (imm, s) := s.fetch8
    some ((imm, false), s)
  | mode =>
    match resolveAddr mode s with
    | some ((ea, crossed), s) => some ((s.mem.read ea, crossed), s)
    | none => none

/-- `Exec(d)` of R232: the Operation of the descriptor's family and the cost it reports, with pc at the
first operand byte. None for a descriptor the table does not have. -/
def exec (d : Descriptor) (s : State) : Option (Nat × State) :=
  match d.kind with
  | .load reg => -- R137
    match resolveValue d.mode s with
    | some ((v, crossed), s) => some (cost .load d.mode crossed, (s.setReg reg v).setNZ v)
    | none => none
  | .store reg => -- R138
    match resolveAddr d.mode s with
    | some ((ea, crossed), s) => some (cost .store d.mode crossed, s.memWrite ea (s.reg reg))
    | none => none
  | .transfer src dst => -- R139
    let s := s.setReg dst (s.reg src)
    some (cost .transfer d.mode false, s.setNZ (s.reg dst))
  | .adc => -- R160
    match resolveValue d.mode s with
    | some ((m, crossed), s) =>
      let sum := add8 s.a m s.c
      let s := s.setReg .a sum.result
      let s := s.setFlag .c sum.carry
      let s := s.setFlag .v sum.overflow
      some (cost .adc d.mode crossed, s.setNZ sum.result)
    | none => none
  | .logical op => -- R159
    match resolveValue d.mode s with
    | some ((m, crossed), s) =>
      let r := logic8 op s.a m
      some (cost .logical d.mode crossed, (s.setReg .a r).setNZ r)
    | none => none
  | .bitTest => -- R164
    match resolveValue d.mode s with
    | some ((m, crossed), s) =>
      let r := bitTest8 s.a m
      let s := s.setFlag .z r.zero
      let s := s.setFlag .v r.overflow
      some (cost .bitTest d.mode crossed, s.setFlag .n r.negative)
    | none => none
  | .incDec dir (.register reg) => -- R178
    let r := incDec8 dir (s.reg reg)
    some (cost .incDecRegister d.mode false, (s.setReg reg r).setNZ r)
  | .incDec dir .memory => -- R178
    match resolveAddr d.mode s with
    | some ((ea, crossed), s) =>
      let m := s.mem.read ea
      let r := incDec8 dir m
      some (cost .incDecMemory d.mode crossed, (s.memWrite ea r).setNZ r)
    | none => none
  | .shift kind => -- R179
    match d.mode with
    | .accumulator =>
      let r := shift8 kind s.a s.c
      let s := s.setReg .a r.result
      some (cost .shiftRotate d.mode false, (s.setFlag .c r.carry).setNZ r.result)
    | mode =>
      match resolveAddr mode s with
      | some ((ea, crossed), s) =>
        let m := s.mem.read ea
        let r := shift8 kind m s.c
        let s := s.memWrite ea r.result
        some (cost .shiftRotate mode crossed, (s.setFlag .c r.carry).setNZ r.result)
      | none => none
  | .setFlag k => some (cost .setClearFlag d.mode false, s.setFlag k true) -- R199
  | .clearFlag k => some (cost .setClearFlag d.mode false, s.setFlag k false) -- R199
  | .branch k takenWhen => -- R207
    let (disp, s) := s.fetch8
    let next := s.pc
    if s.flag k = takenWhen then
      let target := BitVec.ofInt 16 (next.toNat + disp.toInt)
      let crossed := decide (target.toNat / 256 ≠ next.toNat / 256)
      some (3 + crossed.toNat, { s with pc := target })
    else some (2, s)
  | .nop => some (cost .nop d.mode false, s) -- R216

/-- `Step()` of R232, for a state whose latch is clear; none only where `exec` has none. -/
def step (s : State) : Option State :=
  let opcodeAddr := s.pc
  let (op, s) := s.fetch8
  match descriptorOf op with
  | none => some { s with fault := some ⟨op, opcodeAddr⟩ }
  | some d =>
    match exec d s with
    | some (cost, s) => some { s with cyc := s.cyc - (cost : Int) }
    | none => none

end Sys2Proof.Machine.Pseudocode
end

