-- ==== Sys2Proof/Machine/Trace.lean ====
section
/-! DEFINITION. The memory accesses of one step and their order (R55, R56): "the opcode byte; then the
operand bytes in ascending address order; then the data read, if any; then the data write, if any".
Nothing in CORE can observe the order, so it is a function of the state and not state (log
entry 12). -/

namespace Sys2Proof.Machine

/-- One access, one byte wide (R54). -/
inductive Access
  | fetch (addr : Addr)
  | read (addr : Addr)
  | write (addr : Addr)
  deriving DecidableEq, Repr

/-- The address an access touches. -/
def Access.addr : Access → Addr
  | .fetch addr => addr
  | .read addr => addr
  | .write addr => addr

/-- The memory operand of an instruction, from its mode and its operand bytes (R82, R83). -/
def memOperand (i : Instr) : Option MemOperand :=
  match i.descriptor.mode, (encode i).tail with
  | .zeroPage, [zp8] => some (.zeroPage zp8)
  | .zeroPageX, [zp8] => some (.zeroPageX zp8)
  | .zeroPageY, [zp8] => some (.zeroPageY zp8)
  | .absolute, [lo8, hi8] => some (.absolute (joinBytes hi8 lo8))
  | .absoluteX, [lo8, hi8] => some (.absoluteX (joinBytes hi8 lo8))
  | .absoluteY, [lo8, hi8] => some (.absoluteY (joinBytes hi8 lo8))
  | _, _ => none

/-- The fetches of the first `count` bytes from an address up, modulo 65536. -/
def fetches (addr : Addr) : Nat → List Access
  | 0 => []
  | count + 1 => .fetch addr :: fetches (addr + 1) count

/-- The data accesses of each kind at its effective address (R55). -/
def dataAccesses (kind : Kind) (ea : Addr) : List Access :=
  match kind with
  | .load _ | .adc | .logical _ | .bitTest => [.read ea]
  | .store _ => [.write ea]
  | .incDec _ _ | .shift _ => [.read ea, .write ea]
  | .transfer _ _ | .setFlag _ | .clearFlag _ | .branch _ _ | .nop => []

/-- The accesses of an instruction that stands at pc, in the order of R56. -/
def instrAccesses (i : Instr) (s : State) : List Access :=
  fetches s.pc i.length ++
    match memOperand i with
    | some o => dataAccesses i.descriptor.kind (resolveAddr o s).ea
    | none => []

/-- The accesses of the next step: none in a latched state (R253), the opcode byte alone where it has
no entry (R87). -/
def stepAccesses (s : State) : List Access :=
  match s.fault with
  | some _ => []
  | none =>
    match s.fetchInstr with
    | none => [.fetch s.pc]
    | some i => instrAccesses i s

end Sys2Proof.Machine
end

