-- ==== Sys2Proof/Machine/HostInterface.lean ====
section
/-! DEFINITION. The host interface, "the whole boundary of CORE" (R37): `reset`, `execute` with its loop
over `Step()` (R231), and the accessors (R38 to R41). A host command acts between two instructions
(R61), so each is a function from a state to a state and a reply. -/

namespace Sys2Proof.Machine

/-! ### The execution loop -/

/-- The `while` of R231 with at most `fuel` steps: while cyc > 0, one `Step()`; a raised UnknownOpcode
ends the loop, since the next step exists no more. `execute` gives fuel enough
(statement ExecuteIsTheWhileLoop; log entry 11). -/
def runLoop : Nat → State → State
  | 0, s => s
  | fuel + 1, s =>
    if 0 < s.cyc then
      match step s with
      | .next t => runLoop fuel t
      | .fault _ => s
      | .refused _ => s
    else s

/-- `execute(cycle_budget)` of R231: refused while the latch is set (R253), else cyc is loaded and
the loop runs. Every instruction costs at least 2, so a budget of n is fuel enough (R236). -/
def execute (budget : Nat) (s : State) : State :=
  match s.fault with
  | some _ => s
  | none => runLoop budget { s with cyc := budget }

/-- RUNNING of R234, seen between two steps of a command: budget left and no exception. -/
def State.running (s : State) : Bool := decide (0 < s.cyc) && s.fault.isNone

/-! ### The commands -/

/-- The register names of R38: the four 8-bit registers and PC. -/
inductive HostReg
  | data (r : Reg)
  | pc
  deriving DecidableEq, Repr

/-- The host commands of R37. Names are enumerated and an address is 16 bits, so that a wrong name or
an address past 0xFFFF cannot be written (R40, 93 U1, U13); a value is any integer (R38, R40). -/
inductive Command
  | reset
  | execute (budget : Nat)
  | getRegister (r : HostReg)
  | setRegister (r : HostReg) (value : Int)
  | getStatus (k : Flag)
  | setStatus (k : Flag) (bit : Bool)
  | getMemory (addr : Addr)
  | setMemory (addr : Addr) (value : Int)
  | getProgramCounter
  deriving DecidableEq, Repr

/-- What a command answers. -/
inductive Reply
  /-- The command returned and has nothing to say. -/
  | done
  /-- `execute` did nothing: the latch is set (R253, 93 U12). -/
  | refused
  /-- "propagates immediately out of `execute`" (R250, R258). -/
  | raised (e : UnknownOpcode)
  | byte (v : Byte)
  | address (v : Addr)
  | bit (v : Bool)
  deriving DecidableEq, Repr

/-- What `execute` tells the host: refused from a latched state, else the exception if one was
raised. -/
def executeReply (before after : State) : Reply :=
  match before.fault, after.fault with
  | some _, _ => .refused
  | none, some e => .raised e
  | none, none => .done

/-- `get_register` (R38). -/
def State.hostReg (s : State) : HostReg → Reply
  | .data r => .byte (s.reg r)
  | .pc => .address s.pc

/-- `set_register` (R38): the value reduced modulo 256, or 65536 for PC; Z and N are not recomputed
(92_eei_decisions.md D18, D20). -/
def State.setHostReg (s : State) (r : HostReg) (value : Int) : State :=
  match r with
  | .data r => s.setReg r (BitVec.ofInt 8 value)
  | .pc => { s with pc := BitVec.ofInt 16 value }

/-- The effect and the reply of each host command (R37 to R41, R231, R280; the table of R267). -/
def runCommand (cmd : Command) (s : State) : State × Reply :=
  match cmd with
  | .reset => (State.reset, .done)
  | .execute budget => (execute budget s, executeReply s (execute budget s))
  | .getRegister r => (s, s.hostReg r)
  | .setRegister r value => (s.setHostReg r value, .done)
  | .getStatus k => (s, .bit (s.flag k))
  | .setStatus k bit => (s.setFlag k bit, .done)
  | .getMemory addr => (s, .byte (s.mem.read addr))
  | .setMemory addr value => (s.memWrite addr (BitVec.ofInt 8 value), .done)
  | .getProgramCounter => (s, .address s.pc)

/-- The state after a list of host commands, in order (R61). -/
def runCommands (cmds : List Command) (s : State) : State :=
  cmds.foldl (fun s cmd => (runCommand cmd s).1) s

end Sys2Proof.Machine
end

