-- ==== Sys2Proof/Safety.lean ====
section
/-! DEFINITION. What counts as a safe run of CORE, in the terms statements use. -/

namespace Sys2Proof.Machine

/-- A step that completes an instruction: it answers a next state in which "no fault [is] recorded"
(R253). -/
def SafeStep (s : State) : Prop := ∃ t, step s = .next t ∧ t.fault = none

/-- `k` steps that all complete an instruction. -/
def SafeRun (k : Nat) (s : State) : Prop := ∃ t, Host.Core.run core k s = .next t ∧ t.fault = none

/-- A command that ends by its budget and not by the exception: (a) of R236, "a state with the latch
set is never a successful end of a run" (R253). -/
def EndsByBudget (budget : Nat) (s : State) : Prop := (execute budget s).fault = none

/-- The invariant of the machine: memory is in canonical form, and the latch holds no byte but one
without a table entry (R250). -/
def State.Inv (s : State) : Prop :=
  s.mem.wf = true ∧ ∀ e, s.fault = some e → lookup e.op = none

end Sys2Proof.Machine
end

