-- ==== Sys2Proof/Certificates/Slice0/Obligations.lean ====
section
/-! DEFINITION. The statements about CORE, for the provers. Each docstring names the rule of spec/ that
the statement formalises. Where a clause rests on a decision that the spec marks as its own
(92_eei_decisions.md D<n>) or on a choice of the model (a log entry), the docstring says so. Addresses,
results and costs are computed here in numbers, with the `mod` of the rules, and not with the model's
own functions. -/

namespace Sys2Proof.Statements

open Sys2Proof.Machine

/-! ### The terms the statements use -/

/-- R86, line 1 of its list. -/
def absentBytes0 : List Byte :=
  [0x00, 0x01, 0x02, 0x03, 0x04, 0x07, 0x08, 0x0B, 0x0C, 0x0F, 0x11, 0x12, 0x13, 0x14, 0x17, 0x1A,
   0x1B, 0x1C, 0x1F, 0x20, 0x21, 0x22, 0x23, 0x27, 0x28, 0x2B, 0x2F]

/-- R86, line 2 of its list. -/
def absentBytes1 : List Byte :=
  [0x31, 0x32, 0x33, 0x34, 0x37, 0x3A, 0x3B, 0x3C, 0x3F, 0x40, 0x41, 0x42, 0x43, 0x44, 0x47, 0x48,
   0x4B, 0x4C, 0x4F, 0x51, 0x52, 0x53, 0x54, 0x57, 0x5A, 0x5B, 0x5C, 0x5F]

/-- R86, line 3 of its list. -/
def absentBytes2 : List Byte :=
  [0x60, 0x61, 0x62, 0x63, 0x64, 0x67, 0x68, 0x6B, 0x6C, 0x6F, 0x71, 0x72, 0x73, 0x74, 0x77, 0x7A,
   0x7B, 0x7C, 0x7F, 0x80, 0x81, 0x82, 0x83, 0x87, 0x89, 0x8B, 0x8F]

/-- R86, line 4 of its list. -/
def absentBytes3 : List Byte :=
  [0x91, 0x92, 0x93, 0x97, 0x9B, 0x9C, 0x9E, 0x9F, 0xA1, 0xA3, 0xA7, 0xAB, 0xAF, 0xB1, 0xB2, 0xB3,
   0xB7, 0xBB, 0xBF, 0xC0, 0xC1, 0xC2, 0xC3, 0xC4, 0xC5, 0xC7, 0xC9, 0xCB, 0xCC, 0xCD, 0xCF]

/-- R86, line 5 of its list. -/
def absentBytes4 : List Byte :=
  [0xD1, 0xD2, 0xD3, 0xD4, 0xD5, 0xD7, 0xD9, 0xDA, 0xDB, 0xDC, 0xDD, 0xDF, 0xE0, 0xE1, 0xE2, 0xE3,
   0xE4, 0xE5, 0xE7, 0xE9, 0xEB, 0xEC, 0xED, 0xEF]

/-- R86, line 6 of its list. -/
def absentBytes5 : List Byte :=
  [0xF1, 0xF2, 0xF3, 0xF4, 0xF5, 0xF7, 0xF9, 0xFA, 0xFB, 0xFC, 0xFD, 0xFF]

/-- The 149 byte values of R86 that have no table entry, as the rule lists them. -/
def absentBytes : List Byte :=
  absentBytes0 ++ absentBytes1 ++ absentBytes2 ++ absentBytes3 ++
  absentBytes4 ++ absentBytes5

/-- The effective address of ZERO_PAGE (R106). -/
def zpEa (p : Byte) : State → Addr := fun _ => BitVec.ofNat 16 p.toNat

/-- The effective address of ZERO_PAGE_X: `(zp + X) mod 256` (R107). -/
def zpxEa (p : Byte) : State → Addr := fun s => BitVec.ofNat 16 ((p.toNat + s.x.toNat) % 256)

/-- The effective address of ZERO_PAGE_Y: `(zp + Y) mod 256` (R108). -/
def zpyEa (p : Byte) : State → Addr := fun s => BitVec.ofNat 16 ((p.toNat + s.y.toNat) % 256)

/-- The effective address of ABSOLUTE (R109). -/
def absEa (base : Addr) : State → Addr := fun _ => base

/-- The effective address of ABSOLUTE_X: `(base + X) mod 65536` (R110). -/
def abxEa (base : Addr) : State → Addr :=
  fun s => BitVec.ofNat 16 ((base.toNat + s.x.toNat) % 65536)

/-- The effective address of ABSOLUTE_Y: `(base + Y) mod 65536` (R111). -/
def abyEa (base : Addr) : State → Addr :=
  fun s => BitVec.ofNat 16 ((base.toNat + s.y.toNat) % 65536)

/-- A cost that does not depend on the state (R233). -/
def fixed (k : Int) : State → Int := fun _ => k

/-- A cost with the page-cross extra: one more where the effective address has another high byte than
the base (R12 "Page crossing", R233 `+p`). -/
def crossing (k : Int) (base : Addr) (ea : State → Addr) : State → Int :=
  fun s => if (ea s).toNat / 256 = base.toNat / 256 then k else k + 1

/-- The byte at an effective address (R114). -/
def byteAt (ea : State → Addr) : State → Byte := fun s => s.mem.read (ea s)

/-- An immediate value (R105). -/
def immediate (v : Byte) : State → Byte := fun _ => v

/-- Every register but the named ones keeps its value. -/
def RegsKept (s t : State) (but : List Reg) : Prop := ∀ r, r ∉ but → t.reg r = s.reg r

/-- Every flag but the named ones keeps its value. -/
def FlagsKept (s t : State) (but : List Flag) : Prop := ∀ k, k ∉ but → t.flag k = s.flag k

/-- Every byte of memory reads as before. -/
def MemoryKept (s t : State) : Prop := ∀ p, t.mem.read p = s.mem.read p

/-- Every byte of memory but the one at an address reads as before. -/
def MemoryKeptBut (ea : Addr) (s t : State) : Prop := ∀ p, p ≠ ea → t.mem.read p = s.mem.read p

/-- Z and N follow a result: "zero = result==0; negative = bit 7 of result" (R29). -/
def NZFrom (t : State) (r : Byte) : Prop :=
  t.z = decide (r = 0) ∧ t.n = decide (128 ≤ r.toNat)

/-- An instruction that is no branch completes from a state: exec answers a next state, pc is the
address of the opcode plus the length modulo 65536 (R26(a)), the cost is charged (R232), the latch
keeps its value (R250), and no register or flag changes but the named ones. -/
def Runs (i : Instr) (s : State) (length : Nat) (cost : Int) (regs : List Reg)
    (flags : List Flag) (post : State → Prop) : Prop :=
  ∃ t, exec i s = .next t ∧ t.pc.toNat = (s.pc.toNat + length) % 65536 ∧ t.cyc = s.cyc - cost ∧
    t.fault = s.fault ∧ RegsKept s t regs ∧ FlagsKept s t flags ∧ post t

/-- LOAD (R137): the register holds the operand, Z and N follow it, memory is as before. -/
def Loads (r : Reg) (i : Instr) (length : Nat) (value : State → Byte) (cost : State → Int) :
    Prop :=
  ∀ s, Runs i s length (cost s) [r] [.z, .n] fun t =>
    t.reg r = value s ∧ NZFrom t (value s) ∧ MemoryKept s t

/-- STORE (R138): the byte at the address is the register, no other byte, register or flag changes. -/
def Stores (r : Reg) (i : Instr) (length : Nat) (ea : State → Addr) (cost : State → Int) : Prop :=
  ∀ s, Runs i s length (cost s) [] [] fun t =>
    t.mem.read (ea s) = s.reg r ∧ MemoryKeptBut (ea s) s t

/-- TRANSFER (R139). -/
def Transfers (src dst : Reg) (i : Instr) : Prop :=
  ∀ s, Runs i s 1 2 [dst] [.z, .n] fun t =>
    t.reg dst = s.reg src ∧ NZFrom t (s.reg src) ∧ MemoryKept s t

/-- ADC (R160): the sum of A, the operand and C, its carry and its overflow, the overflow in both
forms of R121. -/
def Adds (i : Instr) (length : Nat) (value : State → Byte) (cost : State → Int) : Prop :=
  ∀ s, Runs i s length (cost s) [.a] [.c, .z, .v, .n] fun t =>
    let m := value s
    let sum := s.a.toNat + m.toNat + s.c.toNat
    let signed := s.a.toInt + m.toInt + (s.c.toNat : Int)
    t.a.toNat = sum % 256 ∧ t.c = decide (sum > 255) ∧
    (t.v = true ↔ s.a.getLsbD 7 = m.getLsbD 7 ∧ t.a.getLsbD 7 ≠ s.a.getLsbD 7) ∧
    (t.v = true ↔ signed < -128 ∨ 127 < signed) ∧ NZFrom t t.a ∧ MemoryKept s t

/-- LOGICAL (R159): every bit of A is the operation on the bits of A and the operand. -/
def Combines (op : Bool → Bool → Bool) (i : Instr) (length : Nat) (value : State → Byte)
    (cost : State → Int) : Prop :=
  ∀ s, Runs i s length (cost s) [.a] [.z, .n] fun t =>
    (∀ k, k < 8 → t.a.getLsbD k = op (s.a.getLsbD k) ((value s).getLsbD k)) ∧ NZFrom t t.a ∧
    MemoryKept s t

/-- BIT (R164): Z from A and the memory byte, V and N its bits 6 and 7; A is not written. -/
def TestsBits (i : Instr) (length : Nat) (ea : State → Addr) (cost : Int) : Prop :=
  ∀ s, Runs i s length cost [] [.z, .v, .n] fun t =>
    let m := s.mem.read (ea s)
    (t.z = true ↔ ∀ k, k < 8 → ¬(s.a.getLsbD k = true ∧ m.getLsbD k = true)) ∧
    t.v = m.getLsbD 6 ∧ t.n = m.getLsbD 7 ∧ MemoryKept s t

/-- The number that INC and DEC make of a byte, modulo 256 (R127). -/
def steppedBy (dir : Direction) (m : Byte) : Nat :=
  match dir with
  | .inc => (m.toNat + 1) % 256
  | .dec => (m.toNat + 255) % 256

/-- INC and DEC on memory (R178). -/
def StepsByte (dir : Direction) (i : Instr) (length : Nat) (ea : State → Addr) (cost : Int) :
    Prop :=
  ∀ s, Runs i s length cost [] [.z, .n] fun t =>
    (t.mem.read (ea s)).toNat = steppedBy dir (s.mem.read (ea s)) ∧
    NZFrom t (t.mem.read (ea s)) ∧ MemoryKeptBut (ea s) s t

/-- INX, INY, DEX, DEY (R178). -/
def StepsRegister (dir : Direction) (r : Reg) (i : Instr) : Prop :=
  ∀ s, Runs i s 1 2 [r] [.z, .n] fun t =>
    (t.reg r).toNat = steppedBy dir (s.reg r) ∧ NZFrom t (t.reg r) ∧ MemoryKept s t

/-- The number a shift makes of a byte and the old carry (R123 to R126). -/
def shiftedBy (kind : ShiftKind) (m : Byte) (cin : Bool) : Nat :=
  match kind with
  | .asl => m.toNat * 2 % 256
  | .lsr => m.toNat / 2
  | .rol => m.toNat * 2 % 256 + cin.toNat
  | .ror => m.toNat / 2 + cin.toNat * 128

/-- The bit a shift moves out (R123 to R126): bit 7 to the left, bit 0 to the right. -/
def shiftedOut (kind : ShiftKind) (m : Byte) : Bool :=
  match kind with
  | .asl | .rol => decide (128 ≤ m.toNat)
  | .lsr | .ror => decide (m.toNat % 2 = 1)

/-- ASL, LSR, ROL, ROR on A (R179). -/
def ShiftsA (kind : ShiftKind) (i : Instr) : Prop :=
  ∀ s, Runs i s 1 2 [.a] [.c, .z, .n] fun t =>
    t.a.toNat = shiftedBy kind s.a s.c ∧ t.c = shiftedOut kind s.a ∧ NZFrom t t.a ∧
    MemoryKept s t

/-- ASL, LSR, ROL, ROR on memory (R179): A is not written. -/
def ShiftsByte (kind : ShiftKind) (i : Instr) (length : Nat) (ea : State → Addr) (cost : Int) :
    Prop :=
  ∀ s, Runs i s length cost [] [.c, .z, .n] fun t =>
    let m := s.mem.read (ea s)
    (t.mem.read (ea s)).toNat = shiftedBy kind m s.c ∧ t.c = shiftedOut kind m ∧
    NZFrom t (t.mem.read (ea s)) ∧ MemoryKeptBut (ea s) s t

/-- SET_FLAG and CLEAR_FLAG (R199). -/
def WritesFlag (k : Flag) (bit : Bool) (i : Instr) : Prop :=
  ∀ s, Runs i s 1 2 [] [k] fun t => t.flag k = bit ∧ MemoryKept s t

/-- BRANCH (R207): completes in every state; taken exactly when the flag holds the value, to the
address after the branch plus the signed displacement modulo 65536. -/
def Branches (k : Flag) (takenWhen : Bool) (mk : Byte → Instr) : Prop :=
  ∀ (disp : Byte) (s : State), ∃ t, exec (mk disp) s = .next t ∧ RegsKept s t [] ∧
    FlagsKept s t [] ∧ MemoryKept s t ∧ t.fault = s.fault ∧
    let next := (s.pc.toNat + 2) % 65536
    if s.flag k = takenWhen then
      (t.pc.toNat : Int) = ((next : Int) + disp.toInt) % 65536 ∧
      t.cyc = s.cyc - (if t.pc.toNat / 256 = next / 256 then 3 else 4)
    else t.pc.toNat = next ∧ t.cyc = s.cyc - 2

/-- The flags that each kind writes: the table of R35. -/
def writtenFlags : Kind → List Flag
  | .load _ => [.z, .n]
  | .store _ => []
  | .transfer _ _ => [.z, .n]
  | .adc => [.c, .z, .v, .n]
  | .logical _ => [.z, .n]
  | .bitTest => [.z, .v, .n]
  | .incDec _ _ => [.z, .n]
  | .shift _ => [.c, .z, .n]
  | .setFlag k => [k]
  | .clearFlag k => [k]
  | .branch _ _ => []
  | .nop => []

/-- The registers that each descriptor writes: R21 to R24. -/
def writtenRegs (d : Descriptor) : List Reg :=
  match d.kind, d.mode with
  | .load r, _ => [r]
  | .transfer _ dst, _ => [dst]
  | .adc, _ => [.a]
  | .logical _, _ => [.a]
  | .incDec _ (.register r), _ => [r]
  | .shift _, .accumulator => [.a]
  | _, _ => []

/-- The kinds that write memory when their operand is in memory (R55). -/
def storesToMemory (d : Descriptor) : Bool :=
  match d.kind, d.mode with
  | .store _, _ => true
  | .incDec _ .memory, _ => true
  | .shift _, .accumulator => false
  | .shift _, _ => true
  | _, _ => false

/-- The forms that read a data byte: those with their operand in memory, but for STORE (R55). -/
def readsMemory (d : Descriptor) : Bool :=
  match d.kind, d.mode with
  | .load _, .immediate | .adc, .immediate | .logical _, .immediate => false
  | .load _, _ | .adc, _ | .logical _, _ | .bitTest, _ => true
  | .incDec _ .memory, _ => true
  | .shift _, .accumulator => false
  | .shift _, _ => true
  | _, _ => false

/-- A field of the state that an instruction neither reads nor writes: set to any value before the
instruction, it holds that value after, and everything else comes out the same. -/
def Inert {α : Type} (get : State → α) (set : State → α → State) (i : Instr) : Prop :=
  ∀ (s : State) (w : α), ∃ t, exec i s = .next t ∧ get t = get s ∧
    exec i (set s w) = .next (set t w)

end Sys2Proof.Statements

open Sys2Proof Sys2Proof.Machine Sys2Proof.Statements

/-- One word of each family, written out from R85, decodes to its instruction, and the examples of R101.
The opcode bytes are the spec's own choice (92_eei_decisions.md D1; log entry 6), and so is the low
address byte first of the two absolute forms (R53, R81; D6; log entry 7). -/
def Obligations.SampleWordsDecode : Prop :=
  decode [0xA9, 0x01, 0x77] = .instr (.ldaImm 0x01) [0x77] ∧
  decode [0xB5, 0xF0, 0x77] = .instr (.ldaZpx 0xF0) [0x77] ∧
  decode [0xBD, 0xFF, 0x01, 0x77] = .instr (.ldaAbx 0x01FF) [0x77] ∧
  decode [0x8D, 0x34, 0x12, 0x77] = .instr (.staAbs 0x1234) [0x77] ∧
  decode [0xAA, 0x77] = .instr .tax [0x77] ∧
  decode [0x69, 0x50, 0x77] = .instr (.adcImm 0x50) [0x77] ∧
  decode [0x29, 0x3C, 0x77] = .instr (.andImm 0x3C) [0x77] ∧
  decode [0x24, 0x40, 0x77] = .instr (.bitZp 0x40) [0x77] ∧
  decode [0xF6, 0x10, 0x77] = .instr (.incZpx 0x10) [0x77] ∧
  decode [0xCA, 0x77] = .instr .dex [0x77] ∧
  decode [0x6A, 0x77] = .instr .rorAcc [0x77] ∧
  decode [0xB8, 0x77] = .instr .clv [0x77] ∧
  decode [0xD0, 0xFE, 0x77] = .instr (.bne 0xFE) [0x77] ∧
  decode [0xEA, 0x77] = .instr .nop [0x77] ∧
  descriptorOf 0xA9 = some ⟨.load .a, .immediate⟩ ∧
  descriptorOf 0x0A = some ⟨.shift .asl, .accumulator⟩ ∧
  descriptorOf 0xAA = some ⟨.transfer .a .x, .implied⟩ ∧
  descriptorOf 0xD0 = some ⟨.branch .z false, .relative⟩ ∧
  descriptorOf 0x00 = none

/-- Decode and encode agree: for every instruction, with every operand the encoding admits, and whatever
bytes follow. The opcode bytes and the byte order are the spec's own choices (D1, D6; log entries 6
and 7). -/
def Obligations.DecodeOfEncodeIsIdentity : Prop :=
  ∀ (i : Instr) (rest : List Byte), decode (encode i ++ rest) = .instr i rest

/-- The other direction of the round trip: no bit of a word that decodes is dropped (R84). The opcode
bytes and the byte order are the spec's own choices (D1, D6; log entries 6 and 7). -/
def Obligations.EncodeOfDecodeIsIdentity : Prop :=
  ∀ (bytes rest : List Byte) (i : Instr), decode bytes = .instr i rest → bytes = encode i ++ rest

/-- R86: the 149 values, as the rule lists them, and no other byte. The list is the spec's own choice
(92_eei_decisions.md D2; log entry 6). -/
def Obligations.AbsentBytesHaveNoEntry : Prop :=
  absentBytes.length = 149 ∧ absentBytes.Nodup ∧
  ∀ op : Byte, (descriptorOf op = none ↔ op ∈ absentBytes) ∧
    ∀ rest : List Byte, decode (op :: rest) = .noEntry op ↔ op ∈ absentBytes

/-- R232: `Step()` fetches at pc, decodes and executes. exec does the advance of pc and the charge of the
cost itself (log entry 5), so nothing stands around it. -/
def Obligations.StepRunsDecodedInstruction : Prop :=
  ∀ (s : State) (i : Instr) (rest : List Byte), s.fault = none →
    decode [s.mem.read s.pc, s.mem.read (s.pc + 1), s.mem.read (s.pc + 2)] = .instr i rest →
    step s = exec i s

/-- R251 and R252, taking the one exception. That pc stands one past the byte and what the latch records
are the spec's own choices (92_eei_decisions.md D13, D21; log entry 10), and so is the list of the 149
bytes (D2; log entry 6). -/
def Obligations.StepRaisesUnknownOpcode : Prop :=
  ∀ s : State, s.fault = none → s.mem.read s.pc ∈ absentBytes →
    ∃ t, step s = .next t ∧ t.pc.toNat = (s.pc.toNat + 1) % 65536 ∧
      t.fault = some ⟨s.mem.read s.pc, s.pc⟩ ∧ RegsKept s t [] ∧ FlagsKept s t [] ∧
      MemoryKept s t ∧ t.cyc = s.cyc

/-- R250: "CORE raises exactly one kind of exception", at the opcode fetch only; no instruction raises
it, and it ends the loop of `execute`. -/
def Obligations.UnknownOpcodeIsTheOnlyException : Prop :=
  (∀ s : State, s.fault = none →
    ∃ t, step s = .next t ∧ (t.fault ≠ none ↔ descriptorOf (s.mem.read s.pc) = none)) ∧
  (∀ (i : Instr) (s : State), ∃ t, exec i s = .next t ∧ t.fault = s.fault) ∧
  (∀ (fuel : Nat) (s : State), s.fault ≠ none → runLoop fuel s = s)

/-- R253, the sticky latch, the spec's own choice (92_eei_decisions.md D14; log entry 10). That a bare
step answers a fault is the model's choice (log entry 3), and so is the form of a reply (log entry
11). -/
def Obligations.LatchedMachineDoesNothing : Prop :=
  ∀ (s : State) (e : UnknownOpcode), s.fault = some e →
    (∀ n, runCommand (.execute n) s = (s, .refused)) ∧
    (∀ cmd, cmd ≠ .reset → (runCommand cmd s).1.fault = some e) ∧
    (runCommand .reset s).1.fault = none ∧
    (∀ r, runCommand (.getRegister (.data r)) s = (s, .byte (s.reg r))) ∧
    runCommand (.getRegister .pc) s = (s, .address s.pc) ∧
    (∀ k, runCommand (.getStatus k) s = (s, .bit (s.flag k))) ∧
    (∀ p, runCommand (.getMemory p) s = (s, .byte (s.mem.read p))) ∧
    runCommand .getProgramCounter s = (s, .address s.pc) ∧
    step s = .fault (.latched e)

/-- The two designs agree on every state: the machine that decodes to `Instr`, and the transcription of
R232 with the pseudocode of files 40 to 44. The decisions D1 to D13 stand in both (log entries 6 to
10). -/
def Obligations.StepIsTheSpecsPseudocode : Prop :=
  ∀ s : State, s.fault = none → ∃ t, Pseudocode.step s = some t ∧ step s = .next t

/-- R55, R56 and R87: which accesses a step makes, in which order, and that it changes nothing else in
memory. Which kinds read and write is said a second time in the terms of R55, through `readsMemory`
and `storesToMemory`. The order is the spec's own choice (92_eei_decisions.md D22; log entry 12). -/
def Obligations.StepWritesOnlyItsAccesses : Prop :=
  ∀ s t : State, step s = .next t →
    (∀ p, Access.write p ∉ stepAccesses s → t.mem.read p = s.mem.read p) ∧
    (s.fetchInstr = none → stepAccesses s = fetches s.pc 1) ∧
    ∀ i, s.fetchInstr = some i →
      (stepAccesses s = fetches s.pc i.length ++
        match memOperand i with
        | some o => dataAccesses i.descriptor.kind (resolveAddr o s).ea
        | none => []) ∧
      (∀ p, Access.fetch p ∈ stepAccesses s ↔
        ∃ k, k < i.length ∧ p.toNat = (s.pc.toNat + k) % 65536) ∧
      (∀ p, Access.read p ∈ stepAccesses s ↔
        readsMemory i.descriptor = true ∧ ∃ o, memOperand i = some o ∧ p = (resolveAddr o s).ea) ∧
      (∀ p, Access.write p ∈ stepAccesses s ↔
        storesToMemory i.descriptor = true ∧ ∃ o, memOperand i = some o ∧ p = (resolveAddr o s).ea)

/-- R55, R64 and R87 as a claim about two runs: the bytes outside the access list of R56 cannot be
observed by the step. -/
def Obligations.StepDependsOnlyOnBytesItReads : Prop :=
  ∀ (s : State) (m : Memory), s.fault = none →
    (∀ p, Access.fetch p ∈ stepAccesses s ∨ Access.read p ∈ stepAccesses s →
      m.read p = s.mem.read p) →
    ∃ t u, step s = .next t ∧ step { s with mem := m } = .next u ∧
      RegsKept t u [] ∧ FlagsKept t u [] ∧ u.pc = t.pc ∧ u.cyc = t.cyc ∧ u.fault = t.fault ∧
      ∀ p, (Access.write p ∈ stepAccesses s → u.mem.read p = t.mem.read p) ∧
        (Access.write p ∉ stepAccesses s → u.mem.read p = m.read p)

/-- R64: "a store by an instruction is seen by every later fetch, beginning with the very next
instruction". The opcode byte E8 is the spec's own choice (D1; log entry 6). -/
def Obligations.StoredByteIsFetchedNext : Prop :=
  ∀ s : State, s.fault = none → s.a = 0xE8 →
    ∃ t, exec (.staAbs (s.pc + 3)) s = .next t ∧ step t = exec .inx t

/-- The invariant that every step keeps: memory stays in canonical form, so that equal memories are equal
data, and the latch records only a byte that R250 lets it record. The canonical list is the model's
choice of how to hold the function of R36 (DESIGN CHOICE, log entry 13). -/
def Obligations.StepKeepsInvariant : Prop :=
  ∀ s t : State, s.Inv → step s = .next t → t.Inv

/-- The same invariant over the whole boundary of CORE (R37, R267). Its canonical list of memory is the
model's choice (DESIGN CHOICE, log entry 13). -/
def Obligations.CommandsKeepInvariant : Prop :=
  ∀ (s : State) (cmd : Command), s.Inv → (runCommand cmd s).1.Inv

/-- The invariant holds at reset, whatever the two OPEN constants are. The canonical form that the zeroed
memory of R44 meets, as the empty list, is the model's choice (DESIGN CHOICE, log entry 13). -/
def Obligations.ResetSatisfiesInvariant : Prop :=
  (∀ (sp : Byte) (pc : Addr), (State.resetWith sp pc).Inv) ∧ State.reset.Inv

/-- The canonical form makes the memory of R36, a total function from addresses to bytes, into data. The
list and the form are wholly the model's choice (DESIGN CHOICE, log entry 13); the spec speaks only
of the function and of its reset contents (R44), which an address that is not listed reads as. -/
def Obligations.CanonicalMemoriesAreEqualData : Prop :=
  ∀ m m' : Memory, m.wf = true → m'.wf = true → (∀ p, m.read p = m'.read p) → m = m'

/-- R51 and R52. `Memory.read` answers a byte and no state: it changes none and cannot fail. -/
def Obligations.WriteThenRead : Prop :=
  ∀ (s : State) (p : Addr) (v : Nat),
    let t := s.memWrite p (BitVec.ofNat 8 v)
    (t.mem.read p).toNat = v % 256 ∧ MemoryKeptBut p s t ∧ RegsKept s t [] ∧ FlagsKept s t [] ∧
    t.pc = s.pc ∧ t.cyc = s.cyc ∧ t.fault = s.fault

/-- R40. The address is 16 bits by its type, so an out-of-range address cannot be given. That a value
outside 0 to 255 is reduced modulo 256 is the spec's own choice (92_eei_decisions.md D18; log entry
11). -/
def Obligations.SetMemoryGetMemoryRoundTrip : Prop :=
  ∀ (s : State) (p : Addr) (v : Int),
    runCommand (.getMemory p) s = (s, .byte (s.mem.read p)) ∧
    runCommand (.setMemory p v) s = (s.memWrite p (BitVec.ofInt 8 v), .done) ∧
    (∃ w : Byte, (w.toNat : Int) = v % 256 ∧
      (runCommand (.getMemory p) (runCommand (.setMemory p v) s).1).2 = .byte w)

/-- R121, with its two equivalent forms of the overflow; the function has no D argument. -/
def Obligations.AddIsBinaryWithCarry : Prop :=
  ∀ (a m : Byte) (cin : Bool),
    let sum := a.toNat + m.toNat + cin.toNat
    let r := (add8 a m cin).result
    let signed := a.toInt + m.toInt + (cin.toNat : Int)
    r.toNat = sum % 256 ∧ (add8 a m cin).carry = decide (sum > 255) ∧
    ((add8 a m cin).overflow = true ↔ a.getLsbD 7 = m.getLsbD 7 ∧ r.getLsbD 7 ≠ a.getLsbD 7) ∧
    (add8 a m cin).overflow = ((a ^^^ r) &&& (m ^^^ r)).getLsbD 7 ∧
    ((add8 a m cin).overflow = true ↔ signed < -128 ∨ 127 < signed)

/-- R122, with its examples. -/
def Obligations.LogicIsBitByBit : Prop :=
  (∀ (a m : Byte) (k : Nat), k < 8 →
    (logic8 .and a m).getLsbD k = (a.getLsbD k && m.getLsbD k) ∧
    (logic8 .eor a m).getLsbD k = (a.getLsbD k ^^ m.getLsbD k) ∧
    (logic8 .ior a m).getLsbD k = (a.getLsbD k || m.getLsbD k)) ∧
  logic8 .and 0xF0 0x3C = 0x30 ∧ logic8 .eor 0xF0 0x3C = 0xCC ∧ logic8 .ior 0xF0 0x3C = 0xFC

/-- R123 to R126. The last two clauses say that a rotate is "a 9-bit rotation through carry". -/
def Obligations.ShiftsAndRotatesAreArithmetic : Prop :=
  (∀ (m : Byte) (cin : Bool) (kind : ShiftKind),
    (shift8 kind m cin).result.toNat = shiftedBy kind m cin ∧
    (shift8 kind m cin).carry = shiftedOut kind m ∧
    (shift8 .lsr m cin).result.getLsbD 7 = false ∧ (shift8 .asl m cin).result.getLsbD 0 = false ∧
    (shift8 .ror m cin).result.getLsbD 7 = cin ∧ (shift8 .rol m cin).result.getLsbD 0 = cin) ∧
  (∀ (m : Byte) (cin : Bool),
    (fun r : ShiftResult => rol8 r.result r.carry)^[9] ⟨m, cin⟩ = ⟨m, cin⟩ ∧
    (fun r : ShiftResult => ror8 r.result r.carry)^[9] ⟨m, cin⟩ = ⟨m, cin⟩)

/-- R127 and R128, with the examples of R128. Inc8 and Dec8 return a byte and no carry or overflow. -/
def Obligations.IncDecWrapAndBitTest : Prop :=
  (∀ m : Byte, ((incDec8 .inc m).toNat : Int) = ((m.toNat : Int) + 1) % 256 ∧
    ((incDec8 .dec m).toNat : Int) = ((m.toNat : Int) - 1) % 256) ∧
  (∀ a m : Byte, ((bitTest8 a m).zero = true ↔ a &&& m = 0) ∧
    (bitTest8 a m).overflow = m.getLsbD 6 ∧ (bitTest8 a m).negative = m.getLsbD 7) ∧
  (∀ (i : Instr) (dir : Direction) (target : IncDecTarget) (s t : State),
    i.descriptor.kind = .incDec dir target → exec i s = .next t → t.c = s.c ∧ t.v = s.v) ∧
  bitTest8 0x01 0xC0 = ⟨true, true, true⟩ ∧ bitTest8 0xFF 0x40 = ⟨false, true, false⟩ ∧
  bitTest8 0x0F 0x8F = ⟨false, false, true⟩ ∧ bitTest8 0x00 0x00 = ⟨true, false, false⟩

/-- R120, with its examples. -/
def Obligations.SetNZFollowsResult : Prop :=
  (∀ (s : State) (v : Byte),
    NZFrom (s.setNZ v) v ∧ ¬((s.setNZ v).z = true ∧ (s.setNZ v).n = true) ∧
    FlagsKept s (s.setNZ v) [.z, .n] ∧ RegsKept s (s.setNZ v) [] ∧ (s.setNZ v).pc = s.pc ∧
    (s.setNZ v).mem = s.mem ∧ (s.setNZ v).cyc = s.cyc ∧ (s.setNZ v).fault = s.fault) ∧
  (∀ s : State, (s.setNZ 0x00).z = true ∧ (s.setNZ 0x00).n = false ∧
    (s.setNZ 0x01).z = false ∧ (s.setNZ 0x01).n = false ∧
    (s.setNZ 0x80).z = false ∧ (s.setNZ 0x80).n = true ∧
    (s.setNZ 0xF1).z = false ∧ (s.setNZ 0xF1).n = true)

/-- R106 to R108. One operand byte is consumed: the mode makes an instruction of two bytes. -/
def Obligations.ZeroPageIndexStaysInPageZero : Prop :=
  (∀ (p : Byte) (s : State),
    (resolveAddr (.zeroPage p) s).ea.toNat = p.toNat ∧
    (resolveAddr (.zeroPageX p) s).ea.toNat = (p.toNat + s.x.toNat) % 256 ∧
    (resolveAddr (.zeroPageY p) s).ea.toNat = (p.toNat + s.y.toNat) % 256 ∧
    (resolveAddr (.zeroPage p) s).crossed = false ∧
    (resolveAddr (.zeroPageX p) s).crossed = false ∧
    (resolveAddr (.zeroPageY p) s).crossed = false) ∧
  (∀ i : Instr, i.descriptor.mode = .zeroPage ∨ i.descriptor.mode = .zeroPageX ∨
    i.descriptor.mode = .zeroPageY → i.length = 2) ∧
  (∀ i : Instr, i.descriptor.mode = .zeroPageY →
    i.descriptor.kind = .load .x ∨ i.descriptor.kind = .store .x)

/-- R110 and R111. That the first operand byte is lo is R53, the spec's own choice (D6; log entry 7), and
stands in the encoding statements. -/
def Obligations.AbsoluteIndexWrapsAndCrosses : Prop :=
  (∀ (lo hi : Byte) (s : State),
    let rx := resolveAddr (.absoluteX (joinBytes hi lo)) s
    let ry := resolveAddr (.absoluteY (joinBytes hi lo)) s
    rx.ea.toNat = (hi.toNat * 256 + lo.toNat + s.x.toNat) % 65536 ∧
    rx.crossed = decide (lo.toNat + s.x.toNat > 255) ∧
    ry.ea.toNat = (hi.toNat * 256 + lo.toNat + s.y.toNat) % 65536 ∧
    ry.crossed = decide (lo.toNat + s.y.toNat > 255)) ∧
  (∀ i : Instr, i.descriptor.mode = .absoluteX ∨ i.descriptor.mode = .absoluteY →
    i.length = 3)

/-- R100, with its example. -/
def Obligations.FetchReadsAndAdvances : Prop :=
  (∀ s : State, s.fetch8.1 = s.mem.read s.pc ∧
    s.fetch8.2.pc.toNat = (s.pc.toNat + 1) % 65536 ∧
    { s.fetch8.2 with pc := s.pc } = s ∧
    s.fetchInstr = (lookup s.fetch8.1).map fun form =>
      form.build s.fetch8.2.fetch8.1 s.fetch8.2.fetch8.2.fetch8.1) ∧
  (∀ s : State, s.pc = 0xFFFF → s.mem.read 0xFFFF = 0xEA →
    s.fetch8.1 = 0xEA ∧ s.fetch8.2.pc = 0x0000)

/-- R137, LOAD, for its 16 forms (LDA, LDX, LDY). Which forms exist is the spec's own choice (D2; log
entry 6). -/
def Obligations.LoadsSetRegisterAndFlags : Prop :=
  (∀ v, Loads .a (.ldaImm v) 2 (immediate v) (fixed 2)) ∧
  (∀ p, Loads .a (.ldaZp p) 2 (byteAt (zpEa p)) (fixed 3)) ∧
  (∀ p, Loads .a (.ldaZpx p) 2 (byteAt (zpxEa p)) (fixed 4)) ∧
  (∀ p, Loads .a (.ldaAbs p) 3 (byteAt (absEa p)) (fixed 4)) ∧
  (∀ p, Loads .a (.ldaAbx p) 3 (byteAt (abxEa p)) (crossing 4 p (abxEa p))) ∧
  (∀ p, Loads .a (.ldaAby p) 3 (byteAt (abyEa p)) (crossing 4 p (abyEa p))) ∧
  (∀ v, Loads .x (.ldxImm v) 2 (immediate v) (fixed 2)) ∧
  (∀ p, Loads .x (.ldxZp p) 2 (byteAt (zpEa p)) (fixed 3)) ∧
  (∀ p, Loads .x (.ldxZpy p) 2 (byteAt (zpyEa p)) (fixed 4)) ∧
  (∀ p, Loads .x (.ldxAbs p) 3 (byteAt (absEa p)) (fixed 4)) ∧
  (∀ p, Loads .x (.ldxAby p) 3 (byteAt (abyEa p)) (crossing 4 p (abyEa p))) ∧
  (∀ v, Loads .y (.ldyImm v) 2 (immediate v) (fixed 2)) ∧
  (∀ p, Loads .y (.ldyZp p) 2 (byteAt (zpEa p)) (fixed 3)) ∧
  (∀ p, Loads .y (.ldyZpx p) 2 (byteAt (zpxEa p)) (fixed 4)) ∧
  (∀ p, Loads .y (.ldyAbs p) 3 (byteAt (absEa p)) (fixed 4)) ∧
  (∀ p, Loads .y (.ldyAbx p) 3 (byteAt (abxEa p)) (crossing 4 p (abxEa p)))

/-- R138, STORE, for its 11 forms (STA, STX, STY). The page-cross extra of an absolute-indexed store is
the spec's own reading (92_eei_decisions.md D10; log entry 8). -/
def Obligations.StoresWriteOneByte : Prop :=
  (∀ p, Stores .a (.staZp p) 2 (zpEa p) (fixed 3)) ∧
  (∀ p, Stores .a (.staZpx p) 2 (zpxEa p) (fixed 4)) ∧
  (∀ p, Stores .a (.staAbs p) 3 (absEa p) (fixed 4)) ∧
  (∀ p, Stores .a (.staAbx p) 3 (abxEa p) (crossing 4 p (abxEa p))) ∧
  (∀ p, Stores .a (.staAby p) 3 (abyEa p) (crossing 4 p (abyEa p))) ∧
  (∀ p, Stores .x (.stxZp p) 2 (zpEa p) (fixed 3)) ∧
  (∀ p, Stores .x (.stxZpy p) 2 (zpyEa p) (fixed 4)) ∧
  (∀ p, Stores .x (.stxAbs p) 3 (absEa p) (fixed 4)) ∧
  (∀ p, Stores .y (.styZp p) 2 (zpEa p) (fixed 3)) ∧
  (∀ p, Stores .y (.styZpx p) 2 (zpxEa p) (fixed 4)) ∧
  (∀ p, Stores .y (.styAbs p) 3 (absEa p) (fixed 4))

/-- R139, TRANSFER. The six pairs, and that TXS writes Z and N, are the spec's own choices
(92_eei_decisions.md D3; log entry 9). -/
def Obligations.TransfersCopyAndSetFlags : Prop :=
  Transfers .a .x .tax ∧
  Transfers .a .y .tay ∧
  Transfers .x .a .txa ∧
  Transfers .y .a .tya ∧
  Transfers .sp .x .tsx ∧
  Transfers .x .sp .txs

/-- R160, ADC, through `Add8` of R121, for its six forms. That it is so for every value of D (R31) is the
spec's own choice (92_eei_decisions.md D15; log entry 9), and so is which forms exist (D2; log entry
6). -/
def Obligations.AdcAddsWithCarry : Prop :=
  (∀ v, Adds (.adcImm v) 2 (immediate v) (fixed 2)) ∧
  (∀ p, Adds (.adcZp p) 2 (byteAt (zpEa p)) (fixed 3)) ∧
  (∀ p, Adds (.adcZpx p) 2 (byteAt (zpxEa p)) (fixed 4)) ∧
  (∀ p, Adds (.adcAbs p) 3 (byteAt (absEa p)) (fixed 4)) ∧
  (∀ p, Adds (.adcAbx p) 3 (byteAt (abxEa p)) (crossing 4 p (abxEa p))) ∧
  (∀ p, Adds (.adcAby p) 3 (byteAt (abyEa p)) (crossing 4 p (abyEa p)))

/-- R159, LOGICAL, for its 18 forms (AND, EOR, ORA). The costs are the spec's own choice
(92_eei_decisions.md D9; log entry 8). -/
def Obligations.LogicalFormsCombineBits : Prop :=
  (∀ v, Combines and (.andImm v) 2 (immediate v) (fixed 2)) ∧
  (∀ p, Combines and (.andZp p) 2 (byteAt (zpEa p)) (fixed 3)) ∧
  (∀ p, Combines and (.andZpx p) 2 (byteAt (zpxEa p)) (fixed 4)) ∧
  (∀ p, Combines and (.andAbs p) 3 (byteAt (absEa p)) (fixed 4)) ∧
  (∀ p, Combines and (.andAbx p) 3 (byteAt (abxEa p)) (crossing 4 p (abxEa p))) ∧
  (∀ p, Combines and (.andAby p) 3 (byteAt (abyEa p)) (crossing 4 p (abyEa p))) ∧
  (∀ v, Combines xor (.eorImm v) 2 (immediate v) (fixed 2)) ∧
  (∀ p, Combines xor (.eorZp p) 2 (byteAt (zpEa p)) (fixed 3)) ∧
  (∀ p, Combines xor (.eorZpx p) 2 (byteAt (zpxEa p)) (fixed 4)) ∧
  (∀ p, Combines xor (.eorAbs p) 3 (byteAt (absEa p)) (fixed 4)) ∧
  (∀ p, Combines xor (.eorAbx p) 3 (byteAt (abxEa p)) (crossing 4 p (abxEa p))) ∧
  (∀ p, Combines xor (.eorAby p) 3 (byteAt (abyEa p)) (crossing 4 p (abyEa p))) ∧
  (∀ v, Combines or (.oraImm v) 2 (immediate v) (fixed 2)) ∧
  (∀ p, Combines or (.oraZp p) 2 (byteAt (zpEa p)) (fixed 3)) ∧
  (∀ p, Combines or (.oraZpx p) 2 (byteAt (zpxEa p)) (fixed 4)) ∧
  (∀ p, Combines or (.oraAbs p) 3 (byteAt (absEa p)) (fixed 4)) ∧
  (∀ p, Combines or (.oraAbx p) 3 (byteAt (abxEa p)) (crossing 4 p (abxEa p))) ∧
  (∀ p, Combines or (.oraAby p) 3 (byteAt (abyEa p)) (crossing 4 p (abyEa p)))

/-- R164, BIT. Its two modes and its costs are the spec's own choices (92_eei_decisions.md D2, D9; log
entries 6 and 8). -/
def Obligations.BitFormsTestMemory : Prop :=
  (∀ p, TestsBits (.bitZp p) 2 (zpEa p) 3) ∧
  (∀ p, TestsBits (.bitAbs p) 3 (absEa p) 4)

/-- R178 on memory (INC, DEC). The costs are the spec's own choice (92_eei_decisions.md D9; log entry 8). -/
def Obligations.IncDecMemoryForms : Prop :=
  (∀ p, StepsByte .inc (.incZp p) 2 (zpEa p) 5) ∧
  (∀ p, StepsByte .inc (.incZpx p) 2 (zpxEa p) 6) ∧
  (∀ p, StepsByte .inc (.incAbs p) 3 (absEa p) 6) ∧
  (∀ p, StepsByte .inc (.incAbx p) 3 (abxEa p) 7) ∧
  (∀ p, StepsByte .dec (.decZp p) 2 (zpEa p) 5) ∧
  (∀ p, StepsByte .dec (.decZpx p) 2 (zpxEa p) 6) ∧
  (∀ p, StepsByte .dec (.decAbs p) 3 (absEa p) 6) ∧
  (∀ p, StepsByte .dec (.decAbx p) 3 (abxEa p) 7)

/-- R178 on a register (INX, INY, DEX, DEY). Which registers and the cost are the spec's own choices
(92_eei_decisions.md D24, D9; log entries 6 and 8). -/
def Obligations.IncDecRegisterForms : Prop :=
  StepsRegister .inc .x .inx ∧
  StepsRegister .inc .y .iny ∧
  StepsRegister .dec .x .dex ∧
  StepsRegister .dec .y .dey

/-- R179 in ACCUMULATOR mode (ASL, LSR, ROL, ROR). The cost is the spec's own choice
(92_eei_decisions.md D9; log entry 8). -/
def Obligations.ShiftAccumulatorForms : Prop :=
  ShiftsA .asl .aslAcc ∧
  ShiftsA .lsr .lsrAcc ∧
  ShiftsA .rol .rolAcc ∧
  ShiftsA .ror .rorAcc

/-- R179 on memory (ASL, LSR, ROL, ROR). The costs are the spec's own choice (92_eei_decisions.md D9; log
entry 8). -/
def Obligations.ShiftMemoryForms : Prop :=
  (∀ p, ShiftsByte .asl (.aslZp p) 2 (zpEa p) 5) ∧
  (∀ p, ShiftsByte .asl (.aslZpx p) 2 (zpxEa p) 6) ∧
  (∀ p, ShiftsByte .asl (.aslAbs p) 3 (absEa p) 6) ∧
  (∀ p, ShiftsByte .asl (.aslAbx p) 3 (abxEa p) 7) ∧
  (∀ p, ShiftsByte .lsr (.lsrZp p) 2 (zpEa p) 5) ∧
  (∀ p, ShiftsByte .lsr (.lsrZpx p) 2 (zpxEa p) 6) ∧
  (∀ p, ShiftsByte .lsr (.lsrAbs p) 3 (absEa p) 6) ∧
  (∀ p, ShiftsByte .lsr (.lsrAbx p) 3 (abxEa p) 7) ∧
  (∀ p, ShiftsByte .rol (.rolZp p) 2 (zpEa p) 5) ∧
  (∀ p, ShiftsByte .rol (.rolZpx p) 2 (zpxEa p) 6) ∧
  (∀ p, ShiftsByte .rol (.rolAbs p) 3 (absEa p) 6) ∧
  (∀ p, ShiftsByte .rol (.rolAbx p) 3 (abxEa p) 7) ∧
  (∀ p, ShiftsByte .ror (.rorZp p) 2 (zpEa p) 5) ∧
  (∀ p, ShiftsByte .ror (.rorZpx p) 2 (zpxEa p) 6) ∧
  (∀ p, ShiftsByte .ror (.rorAbs p) 3 (absEa p) 6) ∧
  (∀ p, ShiftsByte .ror (.rorAbx p) 3 (abxEa p) 7)

/-- R199, SET_FLAG and CLEAR_FLAG: clear clears. Which flags have them is the spec's own choice
(92_eei_decisions.md D4; log entry 6). -/
def Obligations.FlagInstructionsWriteOneFlag : Prop :=
  WritesFlag .c false .clc ∧
  WritesFlag .c true .sec ∧
  WritesFlag .i false .cli ∧
  WritesFlag .i true .sei ∧
  WritesFlag .v false .clv ∧
  WritesFlag .d false .cld ∧
  WritesFlag .d true .sed

/-- R207, BRANCH. The eight conditions and what a page cross compares are the spec's own choices
(92_eei_decisions.md D5, D12; log entries 6 and 8). -/
def Obligations.BranchesMovePcByDisplacement : Prop :=
  Branches .n false .bpl ∧
  Branches .n true .bmi ∧
  Branches .v false .bvc ∧
  Branches .v true .bvs ∧
  Branches .c false .bcc ∧
  Branches .c true .bcs ∧
  Branches .z false .bne ∧
  Branches .z true .beq

/-- R216, "cost 2, no state change". That EA is its only byte is the spec's own choice
(92_eei_decisions.md D1; log entry 6). -/
def Obligations.NopOnlyAdvances : Prop :=
  (∀ s : State, Runs .nop s 1 2 [] [] fun t => MemoryKept s t ∧
    { t with pc := s.pc, cyc := s.cyc } = s) ∧
  (∀ (op : Byte) (rest : List Byte), decode (op :: rest) = .instr .nop rest ↔ op = 0xEA)

/-- R233: "Every cost is between 2 and 7." Part of the table is the spec's own choice (D9, D10; log entry
8). -/
def Obligations.CostsAreTwoToSeven : Prop :=
  ∀ (i : Instr) (s : State), ∃ t, exec i s = .next t ∧ 2 ≤ s.cyc - t.cyc ∧ s.cyc - t.cyc ≤ 7

/-- R26. A taken branch is one whose descriptor names a flag and a value that the flag holds. That the
setter reduces its value modulo 65536 (R38) is the spec's own choice (92_eei_decisions.md D18; log
entry 11); the reset constant is the value the model names (log entry 2). -/
def Obligations.PcChangesOnlyAsFetchOrBranch : Prop :=
  (∀ (i : Instr) (s t : State), exec i s = .next t →
    (1 ≤ i.length ∧ i.length ≤ 3) ∧
    ((∀ k w, i.descriptor.kind = .branch k w → s.flag k ≠ w) →
      t.pc.toNat = (s.pc.toNat + i.length) % 65536) ∧
    (∀ k w, i.descriptor.kind = .branch k w → s.flag k = w →
      ∃ op disp, encode i = [op, disp] ∧
        (t.pc.toNat : Int) = ((s.pc.toNat : Int) + 2 + disp.toInt) % 65536)) ∧
  (∀ s : State, s.fetch8.2.pc.toNat = (s.pc.toNat + 1) % 65536) ∧
  (∀ (s : State) (cmd : Command),
    (∀ n, cmd ≠ .execute n) → cmd ≠ .reset → (∀ v, cmd ≠ .setRegister .pc v) →
    (runCommand cmd s).1.pc = s.pc) ∧
  (∀ (s : State) (v : Int),
    ((runCommand (.setRegister .pc v) s).1.pc.toNat : Int) = v % 65536) ∧
  (∀ s : State, (runCommand .reset s).1.pc = Config.resetPC)

/-- R35, the table of flag effects, which the spec derives from its instruction rules. -/
def Obligations.FlagsChangeOnlyAsTabled : Prop :=
  ∀ (i : Instr) (s t : State), exec i s = .next t →
    FlagsKept s t (writtenFlags i.descriptor.kind) ∧
    (∀ k, i.descriptor.kind = .setFlag k → t.flag k = true) ∧
    (∀ k, i.descriptor.kind = .clearFlag k → t.flag k = false)

/-- R21 to R24 (who writes each register) and R55 (who writes memory), which the spec derives from its
instruction rules. The address stored to is the one the meaning computes. -/
def Obligations.RegistersAndMemoryFrame : Prop :=
  ∀ (i : Instr) (s t : State), exec i s = .next t →
    RegsKept s t (writtenRegs i.descriptor) ∧
    (storesToMemory i.descriptor = false → MemoryKept s t) ∧
    (storesToMemory i.descriptor = true →
      ∃ o, memOperand i = some o ∧ MemoryKeptBut (resolveAddr o s).ea s t)

/-- R29: "zero and negative are recomputed after every register-affecting operation", and the memory
forms. TXS follows it by the spec's own choice (D3; log entry 9). -/
def Obligations.ZAndNFollowEveryWrittenRegister : Prop :=
  ∀ (i : Instr) (s t : State), exec i s = .next t →
    (∀ r, r ∈ writtenRegs i.descriptor → NZFrom t (t.reg r)) ∧
    (storesToMemory i.descriptor = true → (∀ r, i.descriptor.kind ≠ .store r) →
      ∃ o, memOperand i = some o ∧ NZFrom t (t.mem.read (resolveAddr o s).ea))

/-- R32, a stored bit. -/
def Obligations.BreakFlagIsInert : Prop :=
  (∀ i : Instr, Inert State.b (fun s w => { s with b := w }) i) ∧
  (∀ (s : State) (cmd : Command), (∀ w, cmd ≠ .setStatus .b w) → cmd ≠ .reset →
    (runCommand cmd s).1.b = s.b) ∧
  (∀ (s : State) (w : Bool), (runCommand .reset s).1.b = false ∧
    (runCommand (.setStatus .b w) s).1.b = w ∧
    runCommand (.getStatus .b) s = (s, .bit s.b))

/-- R30, a stored bit with no effect on execution. -/
def Obligations.InterruptFlagIsInert : Prop :=
  (∀ i : Instr, i ≠ .sei → i ≠ .cli → Inert State.i (fun s w => { s with i := w }) i) ∧
  (∀ (s : State) (w : Bool), ∃ t u, exec .sei s = .next t ∧ t.i = true ∧
    exec .cli s = .next u ∧ u.i = false ∧ exec .sei { s with i := w } = .next t ∧
    exec .cli { s with i := w } = .next u) ∧
  (∀ (s : State) (cmd : Command), (∀ w, cmd ≠ .setStatus .i w) → cmd ≠ .reset →
    (∀ n, cmd ≠ .execute n) → (runCommand cmd s).1.i = s.i) ∧
  (∀ (s : State) (w : Bool), (runCommand .reset s).1.i = false ∧
    (runCommand (.setStatus .i w) s).1.i = w ∧
    runCommand (.getStatus .i) s = (s, .bit s.i))

/-- R31 and R24. That D has no effect on ADC is the spec's own choice (92_eei_decisions.md D15; log entry
9); TSX and TXS are in the table by D3. -/
def Obligations.DecimalFlagAndStackPointerAreInert : Prop :=
  (∀ i : Instr, i ≠ .sed → i ≠ .cld → Inert State.d (fun s w => { s with d := w }) i) ∧
  (∀ i : Instr, i ≠ .tsx → i ≠ .txs → Inert State.sp (fun s w => { s with sp := w }) i)

/-- R280, for every value of the two OPEN constants. The command uses the two values the model names (log
entries 1 and 2), which no clause here depends on. -/
def Obligations.ResetStateIsDocumented : Prop :=
  (∀ (sp : Byte) (pc : Addr),
    let s := State.resetWith sp pc
    s.a = 0 ∧ s.x = 0 ∧ s.y = 0 ∧ s.sp = sp ∧ s.pc = pc ∧ (∀ k, s.flag k = false) ∧
    (∀ p, s.mem.read p = 0) ∧ s.fault = none ∧ s.cyc = 0) ∧
  (∀ s : State, runCommand .reset s =
    (State.resetWith Config.resetSP Config.resetPC, .done))

/-- R282. -/
def Obligations.ResetLeavesNoResidue : Prop :=
  ∀ s s' : State,
    (runCommand .reset s).1 = (runCommand .reset s').1 ∧
    (runCommand .reset (runCommand .reset s).1).1 = (runCommand .reset s).1 ∧
    (runCommand .reset s).1.fault = none

/-- R283, which the spec derives, for every value of the OPEN constants. That pc stands one past the byte
and cyc is not charged, and what the latch records, are the spec's own choices
(92_eei_decisions.md D13, D21; log entry 10). -/
def Obligations.ExecuteAfterResetRaises : Prop :=
  ∀ (sp : Byte) (pc : Addr) (n : Nat),
    execute (n + 1) (State.resetWith sp pc) =
      { State.resetWith sp pc with
        pc := pc + 1, fault := some ⟨0x00, pc⟩, cyc := ((n + 1 : Nat) : Int) } ∧
    execute 0 (State.resetWith sp pc) = State.resetWith sp pc

/-- R231, the loop, and R237. That the budget is looked at only between instructions is the spec's own
choice (D11), the refusal too (D14; log entry 10). R250 and R258: the exception "propagates immediately
out of `execute`", to the host; that it does so as a `Reply` is the model's choice of form (log entry
11). The last clause says the fuel of `runLoop` is no bound (log entry 11). -/
def Obligations.ExecuteIsTheWhileLoop : Prop :=
  (∀ (s : State) (n : Nat), s.fault ≠ none → execute n s = s) ∧
  (∀ s : State, s.fault = none → execute 0 s = { s with cyc := 0 }) ∧
  (∀ (s : State) (n : Nat), s.fault = none → 0 < n →
    ∃ t, step { s with cyc := n } = .next t ∧
      execute n s = if t.fault = none ∧ 0 < t.cyc then execute t.cyc.toNat t else t) ∧
  (∀ (s : State) (n : Nat), s.fault = none →
    (∀ e, (execute n s).fault = some e →
      runCommand (.execute n) s = (execute n s, .raised e)) ∧
    ((execute n s).fault = none → runCommand (.execute n) s = (execute n s, .done))) ∧
  (∀ (s : State) (fuel : Nat), s.cyc ≤ fuel → runLoop (fuel + 1) s = runLoop fuel s)

/-- R235 and R236, for every program that memory can hold. The overshoot is the spec's own choice (D11),
part of the costs too (D9; log entry 8). -/
def Obligations.ExecuteOvershootsAtMostSix : Prop :=
  ∀ (s : State) (n : Nat), s.fault = none →
    ((execute n s).fault = none → -6 ≤ (execute n s).cyc ∧ (execute n s).cyc ≤ 0) ∧
    ((execute n s).fault ≠ none → 0 < (execute n s).cyc ∧ (execute n s).cyc ≤ n) ∧
    (execute n s).running = false

/-- R236: "every instruction costs at least 2, so at most ceil(n / 2) instructions execute". The step that
raises the exception counts as one. The costs are in part the spec's own choice (D9; log entry 8). -/
def Obligations.ExecuteIsFewSteps : Prop :=
  ∀ (s : State) (n : Nat), s.fault = none →
    ∃ k, k ≤ (n + 1) / 2 ∧ Host.Core.run core k { s with cyc := n } = .next (execute n s)

/-- R238, which the spec derives: "They are the same when the first ends with `cyc` = 0 exactly." That
each command loads cyc afresh is the spec's own choice (92_eei_decisions.md D19). -/
def Obligations.ExecuteComposesAtExactEnd : Prop :=
  ∀ (s : State) (a b : Nat), s.fault = none → (execute a s).fault = none →
    (execute a s).cyc = 0 → execute b (execute a s) = execute (a + b) s

/-- R38, R39 and R41. The reduction of the value, and that Z and N are not recomputed, are the spec's own
choices (92_eei_decisions.md D18, D20; log entry 11). -/
def Obligations.HostAccessorsReadAndWriteOneItem : Prop :=
  ∀ (s : State) (v : Int),
    (∀ r, let t := (runCommand (.setRegister (.data r) v) s).1;
      ((t.reg r).toNat : Int) = v % 256 ∧ RegsKept s t [r] ∧ FlagsKept s t [] ∧ t.pc = s.pc ∧
      t.mem = s.mem ∧ t.cyc = s.cyc ∧ t.fault = s.fault ∧
      runCommand (.getRegister (.data r)) s = (s, .byte (s.reg r))) ∧
    (let t := (runCommand (.setRegister .pc v) s).1;
      (t.pc.toNat : Int) = v % 65536 ∧ { t with pc := s.pc } = s) ∧
    runCommand (.getRegister .pc) s = (s, .address s.pc) ∧
    runCommand .getProgramCounter s = (s, .address s.pc) ∧
    (∀ k w, let t := (runCommand (.setStatus k w) s).1;
      t.flag k = w ∧ FlagsKept s t [k] ∧ RegsKept s t [] ∧ t.pc = s.pc ∧ t.mem = s.mem ∧
      t.cyc = s.cyc ∧ t.fault = s.fault ∧ runCommand (.getStatus k) s = (s, .bit (s.flag k)))
end

