-- ==== Sys2Proof/Laws/Costs.lean ====
section
/-! SUPPORT. The laws of the cost table (R233). -/

namespace Sys2Proof.Machine

/-- The row of R233 that a kind is charged by; BRANCH has its own. -/
def costClassOf : Kind → Option CostClass
  | .load _ => some .load
  | .store _ => some .store
  | .transfer _ _ => some .transfer
  | .adc => some .adc
  | .logical _ => some .logical
  | .bitTest => some .bitTest
  | .incDec _ .memory => some .incDecMemory
  | .incDec _ (.register _) => some .incDecRegister
  | .shift _ => some .shiftRotate
  | .setFlag _ => some .setClearFlag
  | .clearFlag _ => some .setClearFlag
  | .branch _ _ => none
  | .nop => some .nop

/-- No instruction is charged by a blank cell of the table: the cell of its kind and mode holds a
cost from 2 to 7. -/
theorem baseCost_pos (i : Instr) (cls : CostClass)
    (h : costClassOf i.descriptor.kind = some cls) :
    2 ≤ baseCost cls i.descriptor.mode ∧ baseCost cls i.descriptor.mode ≤ 7 := by
  cases i <;> cases h <;>
    exact ⟨Nat.le_of_ble_eq_true rfl, Nat.le_of_ble_eq_true rfl⟩

/-- The page-cross extra is at most one cycle. -/
theorem cost_le (cls : CostClass) (m : Mode) (crossed : Bool) :
    baseCost cls m ≤ cost cls m crossed ∧ cost cls m crossed ≤ baseCost cls m + 1 := by
  unfold cost; split <;> omega

/-- Without a page cross the cost is the table's cell. -/
@[simp] theorem cost_not_crossed (cls : CostClass) (m : Mode) : cost cls m false = baseCost cls m := by
  simp [cost]

/-- R233: a branch costs 2, 3 or 4. -/
theorem branchCost_range (taken crossed : Bool) :
    2 ≤ branchCost taken crossed ∧ branchCost taken crossed ≤ 4 := by
  cases taken <;> cases crossed <;> decide

end Sys2Proof.Machine
end

