-- ==== Sys2Proof/Laws/Decode.lean ====
section
/-! SUPPORT. The laws of the decoder: the table is unambiguous and has the size the spec gives it, the
two bytes of an address come apart and together, and every instruction is well formed. -/

namespace Sys2Proof

/-- No two rows of `OPTABLE` share an opcode byte. -/
theorem opTable_opcodes_distinct : opTable.Pairwise fun r q => r.opcode ≠ q.opcode := by
  decide

/-- R85: "107 entries". -/
theorem opTable_length : opTable.length = 107 := rfl

/-- Every instruction's descriptor is one the table has an entry for. -/
theorem every_instr_wellFormed (i : Instr) : i.wellFormed = true := by
  cases i <;> rfl

@[simp] theorem joinBytes_hi_lo (a : Addr) : joinBytes (hiByte a) (loByte a) = a := by
  apply BitVec.eq_of_getLsbD_eq
  intro k hk
  simp only [joinBytes, hiByte, loByte, BitVec.getLsbD_append, BitVec.getLsbD_extractLsb']
  by_cases h : k < 8
  · simp [h]
  · have : k - 8 < 8 := by omega
    simp [h, this, show 8 + (k - 8) = k by omega]

/-- R8: `{h, l}` is `h * 256 + l`. -/
theorem joinBytes_toNat (hi lo : Byte) : (joinBytes hi lo).toNat = hi.toNat * 256 + lo.toNat := by
  have := lo.isLt
  simp only [joinBytes, BitVec.toNat_append]
  rw [← Nat.shiftLeft_add_eq_or_of_lt this, Nat.shiftLeft_eq]

theorem loByte_toNat (a : Addr) : (loByte a).toNat = a.toNat % 256 := by
  simp [loByte, BitVec.extractLsb'_toNat]

theorem hiByte_toNat (a : Addr) : (hiByte a).toNat = a.toNat / 256 := by
  have := a.isLt
  simp only [hiByte, BitVec.extractLsb'_toNat, Nat.shiftRight_eq_div_pow]
  omega

@[simp] theorem loByte_joinBytes (hi lo : Byte) : loByte (joinBytes hi lo) = lo := by
  apply BitVec.eq_of_toNat_eq
  have := lo.isLt
  rw [loByte_toNat, joinBytes_toNat]
  omega

@[simp] theorem hiByte_joinBytes (hi lo : Byte) : hiByte (joinBytes hi lo) = hi := by
  apply BitVec.eq_of_toNat_eq
  have := lo.isLt
  rw [hiByte_toNat, joinBytes_toNat]
  omega

end Sys2Proof
end

