-- ==== Sys2Proof/Laws/Operands.lean ====
section
/-! SUPPORT. The laws of the addressing-mode resolver: index sums as numbers (R58). -/

namespace Sys2Proof.Machine

/-- R107, R108: a zero-page index sum is taken modulo 256. -/
theorem indexZeroPage_ea_toNat (zp index : Byte) :
    (indexZeroPage zp index).ea.toNat = (zp.toNat + index.toNat) % 256 := by
  simp [indexZeroPage, BitVec.toNat_setWidth]; omega

@[simp] theorem indexZeroPage_crossed (zp index : Byte) :
    (indexZeroPage zp index).crossed = false := rfl

/-- R110, R111: an absolute index sum is taken modulo 65536. -/
theorem indexAbsolute_ea_toNat (base : Addr) (index : Byte) :
    (indexAbsolute base index).ea.toNat = (base.toNat + index.toNat) % 65536 := by
  have := index.isLt
  simp [indexAbsolute, BitVec.toNat_add, BitVec.toNat_setWidth]

/-- R110, R111: crossed is the carry out of the low-byte addition. -/
theorem indexAbsolute_crossed (base : Addr) (index : Byte) :
    (indexAbsolute base index).crossed = decide (base.toNat % 256 + index.toNat > 255) := by
  simp [indexAbsolute, loByte_toNat]

/-- A zero-page address as a number (R106). -/
theorem setWidth16_toNat (v : Byte) : (v.setWidth 16 : Addr).toNat = v.toNat := by
  have := v.isLt
  simp [BitVec.toNat_setWidth]; omega

end Sys2Proof.Machine
end

