-- ==== Sys2Proof/Laws/State.lean ====
section
/-! SUPPORT. One lemma for each field under each update of State, so that no proof unfolds a record
update; and the read of one register or flag after each update. -/

namespace Sys2Proof.Machine

/-! ### The register file -/

@[simp] theorem State.reg_a (s : State) : s.reg .a = s.a := rfl
@[simp] theorem State.reg_x (s : State) : s.reg .x = s.x := rfl
@[simp] theorem State.reg_y (s : State) : s.reg .y = s.y := rfl
@[simp] theorem State.reg_sp (s : State) : s.reg .sp = s.sp := rfl

@[simp] theorem State.pc_setReg (s : State) (r : Reg) (w : Byte) : (s.setReg r w).pc = s.pc := by cases r <;> rfl
@[simp] theorem State.c_setReg (s : State) (r : Reg) (w : Byte) : (s.setReg r w).c = s.c := by cases r <;> rfl
@[simp] theorem State.z_setReg (s : State) (r : Reg) (w : Byte) : (s.setReg r w).z = s.z := by cases r <;> rfl
@[simp] theorem State.i_setReg (s : State) (r : Reg) (w : Byte) : (s.setReg r w).i = s.i := by cases r <;> rfl
@[simp] theorem State.d_setReg (s : State) (r : Reg) (w : Byte) : (s.setReg r w).d = s.d := by cases r <;> rfl
@[simp] theorem State.b_setReg (s : State) (r : Reg) (w : Byte) : (s.setReg r w).b = s.b := by cases r <;> rfl
@[simp] theorem State.v_setReg (s : State) (r : Reg) (w : Byte) : (s.setReg r w).v = s.v := by cases r <;> rfl
@[simp] theorem State.n_setReg (s : State) (r : Reg) (w : Byte) : (s.setReg r w).n = s.n := by cases r <;> rfl
@[simp] theorem State.mem_setReg (s : State) (r : Reg) (w : Byte) : (s.setReg r w).mem = s.mem := by cases r <;> rfl
@[simp] theorem State.cyc_setReg (s : State) (r : Reg) (w : Byte) : (s.setReg r w).cyc = s.cyc := by cases r <;> rfl
@[simp] theorem State.fault_setReg (s : State) (r : Reg) (w : Byte) : (s.setReg r w).fault = s.fault := by cases r <;> rfl

@[simp] theorem State.a_setReg_a (s : State) (w : Byte) : (s.setReg .a w).a = w := rfl
@[simp] theorem State.x_setReg_a (s : State) (w : Byte) : (s.setReg .a w).x = s.x := rfl
@[simp] theorem State.y_setReg_a (s : State) (w : Byte) : (s.setReg .a w).y = s.y := rfl
@[simp] theorem State.sp_setReg_a (s : State) (w : Byte) : (s.setReg .a w).sp = s.sp := rfl
@[simp] theorem State.a_setReg_x (s : State) (w : Byte) : (s.setReg .x w).a = s.a := rfl
@[simp] theorem State.x_setReg_x (s : State) (w : Byte) : (s.setReg .x w).x = w := rfl
@[simp] theorem State.y_setReg_x (s : State) (w : Byte) : (s.setReg .x w).y = s.y := rfl
@[simp] theorem State.sp_setReg_x (s : State) (w : Byte) : (s.setReg .x w).sp = s.sp := rfl
@[simp] theorem State.a_setReg_y (s : State) (w : Byte) : (s.setReg .y w).a = s.a := rfl
@[simp] theorem State.x_setReg_y (s : State) (w : Byte) : (s.setReg .y w).x = s.x := rfl
@[simp] theorem State.y_setReg_y (s : State) (w : Byte) : (s.setReg .y w).y = w := rfl
@[simp] theorem State.sp_setReg_y (s : State) (w : Byte) : (s.setReg .y w).sp = s.sp := rfl
@[simp] theorem State.a_setReg_sp (s : State) (w : Byte) : (s.setReg .sp w).a = s.a := rfl
@[simp] theorem State.x_setReg_sp (s : State) (w : Byte) : (s.setReg .sp w).x = s.x := rfl
@[simp] theorem State.y_setReg_sp (s : State) (w : Byte) : (s.setReg .sp w).y = s.y := rfl
@[simp] theorem State.sp_setReg_sp (s : State) (w : Byte) : (s.setReg .sp w).sp = w := rfl

/-- Reading a register after writing one. -/
theorem State.reg_setReg (s : State) (r q : Reg) (w : Byte) :
    (s.setReg r w).reg q = if q = r then w else s.reg q := by
  cases r <;> cases q <;> rfl

@[simp] theorem State.reg_setReg_same (s : State) (r : Reg) (w : Byte) :
    (s.setReg r w).reg r = w := by cases r <;> rfl

/-! ### The flag register -/

@[simp] theorem State.flag_c (s : State) : s.flag .c = s.c := rfl
@[simp] theorem State.flag_z (s : State) : s.flag .z = s.z := rfl
@[simp] theorem State.flag_i (s : State) : s.flag .i = s.i := rfl
@[simp] theorem State.flag_d (s : State) : s.flag .d = s.d := rfl
@[simp] theorem State.flag_b (s : State) : s.flag .b = s.b := rfl
@[simp] theorem State.flag_v (s : State) : s.flag .v = s.v := rfl
@[simp] theorem State.flag_n (s : State) : s.flag .n = s.n := rfl

@[simp] theorem State.a_setFlag (s : State) (k : Flag) (w : Bool) : (s.setFlag k w).a = s.a := by cases k <;> rfl
@[simp] theorem State.x_setFlag (s : State) (k : Flag) (w : Bool) : (s.setFlag k w).x = s.x := by cases k <;> rfl
@[simp] theorem State.y_setFlag (s : State) (k : Flag) (w : Bool) : (s.setFlag k w).y = s.y := by cases k <;> rfl
@[simp] theorem State.sp_setFlag (s : State) (k : Flag) (w : Bool) : (s.setFlag k w).sp = s.sp := by cases k <;> rfl
@[simp] theorem State.pc_setFlag (s : State) (k : Flag) (w : Bool) : (s.setFlag k w).pc = s.pc := by cases k <;> rfl
@[simp] theorem State.mem_setFlag (s : State) (k : Flag) (w : Bool) : (s.setFlag k w).mem = s.mem := by cases k <;> rfl
@[simp] theorem State.cyc_setFlag (s : State) (k : Flag) (w : Bool) : (s.setFlag k w).cyc = s.cyc := by cases k <;> rfl
@[simp] theorem State.fault_setFlag (s : State) (k : Flag) (w : Bool) : (s.setFlag k w).fault = s.fault := by cases k <;> rfl

@[simp] theorem State.c_setFlag_c (s : State) (w : Bool) : (s.setFlag .c w).c = w := rfl
@[simp] theorem State.z_setFlag_c (s : State) (w : Bool) : (s.setFlag .c w).z = s.z := rfl
@[simp] theorem State.i_setFlag_c (s : State) (w : Bool) : (s.setFlag .c w).i = s.i := rfl
@[simp] theorem State.d_setFlag_c (s : State) (w : Bool) : (s.setFlag .c w).d = s.d := rfl
@[simp] theorem State.b_setFlag_c (s : State) (w : Bool) : (s.setFlag .c w).b = s.b := rfl
@[simp] theorem State.v_setFlag_c (s : State) (w : Bool) : (s.setFlag .c w).v = s.v := rfl
@[simp] theorem State.n_setFlag_c (s : State) (w : Bool) : (s.setFlag .c w).n = s.n := rfl
@[simp] theorem State.c_setFlag_z (s : State) (w : Bool) : (s.setFlag .z w).c = s.c := rfl
@[simp] theorem State.z_setFlag_z (s : State) (w : Bool) : (s.setFlag .z w).z = w := rfl
@[simp] theorem State.i_setFlag_z (s : State) (w : Bool) : (s.setFlag .z w).i = s.i := rfl
@[simp] theorem State.d_setFlag_z (s : State) (w : Bool) : (s.setFlag .z w).d = s.d := rfl
@[simp] theorem State.b_setFlag_z (s : State) (w : Bool) : (s.setFlag .z w).b = s.b := rfl
@[simp] theorem State.v_setFlag_z (s : State) (w : Bool) : (s.setFlag .z w).v = s.v := rfl
@[simp] theorem State.n_setFlag_z (s : State) (w : Bool) : (s.setFlag .z w).n = s.n := rfl
@[simp] theorem State.c_setFlag_i (s : State) (w : Bool) : (s.setFlag .i w).c = s.c := rfl
@[simp] theorem State.z_setFlag_i (s : State) (w : Bool) : (s.setFlag .i w).z = s.z := rfl
@[simp] theorem State.i_setFlag_i (s : State) (w : Bool) : (s.setFlag .i w).i = w := rfl
@[simp] theorem State.d_setFlag_i (s : State) (w : Bool) : (s.setFlag .i w).d = s.d := rfl
@[simp] theorem State.b_setFlag_i (s : State) (w : Bool) : (s.setFlag .i w).b = s.b := rfl
@[simp] theorem State.v_setFlag_i (s : State) (w : Bool) : (s.setFlag .i w).v = s.v := rfl
@[simp] theorem State.n_setFlag_i (s : State) (w : Bool) : (s.setFlag .i w).n = s.n := rfl
@[simp] theorem State.c_setFlag_d (s : State) (w : Bool) : (s.setFlag .d w).c = s.c := rfl
@[simp] theorem State.z_setFlag_d (s : State) (w : Bool) : (s.setFlag .d w).z = s.z := rfl
@[simp] theorem State.i_setFlag_d (s : State) (w : Bool) : (s.setFlag .d w).i = s.i := rfl
@[simp] theorem State.d_setFlag_d (s : State) (w : Bool) : (s.setFlag .d w).d = w := rfl
@[simp] theorem State.b_setFlag_d (s : State) (w : Bool) : (s.setFlag .d w).b = s.b := rfl
@[simp] theorem State.v_setFlag_d (s : State) (w : Bool) : (s.setFlag .d w).v = s.v := rfl
@[simp] theorem State.n_setFlag_d (s : State) (w : Bool) : (s.setFlag .d w).n = s.n := rfl
@[simp] theorem State.c_setFlag_b (s : State) (w : Bool) : (s.setFlag .b w).c = s.c := rfl
@[simp] theorem State.z_setFlag_b (s : State) (w : Bool) : (s.setFlag .b w).z = s.z := rfl
@[simp] theorem State.i_setFlag_b (s : State) (w : Bool) : (s.setFlag .b w).i = s.i := rfl
@[simp] theorem State.d_setFlag_b (s : State) (w : Bool) : (s.setFlag .b w).d = s.d := rfl
@[simp] theorem State.b_setFlag_b (s : State) (w : Bool) : (s.setFlag .b w).b = w := rfl
@[simp] theorem State.v_setFlag_b (s : State) (w : Bool) : (s.setFlag .b w).v = s.v := rfl
@[simp] theorem State.n_setFlag_b (s : State) (w : Bool) : (s.setFlag .b w).n = s.n := rfl
@[simp] theorem State.c_setFlag_v (s : State) (w : Bool) : (s.setFlag .v w).c = s.c := rfl
@[simp] theorem State.z_setFlag_v (s : State) (w : Bool) : (s.setFlag .v w).z = s.z := rfl
@[simp] theorem State.i_setFlag_v (s : State) (w : Bool) : (s.setFlag .v w).i = s.i := rfl
@[simp] theorem State.d_setFlag_v (s : State) (w : Bool) : (s.setFlag .v w).d = s.d := rfl
@[simp] theorem State.b_setFlag_v (s : State) (w : Bool) : (s.setFlag .v w).b = s.b := rfl
@[simp] theorem State.v_setFlag_v (s : State) (w : Bool) : (s.setFlag .v w).v = w := rfl
@[simp] theorem State.n_setFlag_v (s : State) (w : Bool) : (s.setFlag .v w).n = s.n := rfl
@[simp] theorem State.c_setFlag_n (s : State) (w : Bool) : (s.setFlag .n w).c = s.c := rfl
@[simp] theorem State.z_setFlag_n (s : State) (w : Bool) : (s.setFlag .n w).z = s.z := rfl
@[simp] theorem State.i_setFlag_n (s : State) (w : Bool) : (s.setFlag .n w).i = s.i := rfl
@[simp] theorem State.d_setFlag_n (s : State) (w : Bool) : (s.setFlag .n w).d = s.d := rfl
@[simp] theorem State.b_setFlag_n (s : State) (w : Bool) : (s.setFlag .n w).b = s.b := rfl
@[simp] theorem State.v_setFlag_n (s : State) (w : Bool) : (s.setFlag .n w).v = s.v := rfl
@[simp] theorem State.n_setFlag_n (s : State) (w : Bool) : (s.setFlag .n w).n = w := rfl

/-- Reading a flag after writing one. -/
theorem State.flag_setFlag (s : State) (k q : Flag) (w : Bool) :
    (s.setFlag k w).flag q = if q = k then w else s.flag q := by
  cases k <;> cases q <;> rfl

/-! ### The other updates -/

@[simp] theorem State.a_setNZ (s : State) (w : Byte) : (s.setNZ w).a = s.a := rfl
@[simp] theorem State.x_setNZ (s : State) (w : Byte) : (s.setNZ w).x = s.x := rfl
@[simp] theorem State.y_setNZ (s : State) (w : Byte) : (s.setNZ w).y = s.y := rfl
@[simp] theorem State.sp_setNZ (s : State) (w : Byte) : (s.setNZ w).sp = s.sp := rfl
@[simp] theorem State.pc_setNZ (s : State) (w : Byte) : (s.setNZ w).pc = s.pc := rfl
@[simp] theorem State.c_setNZ (s : State) (w : Byte) : (s.setNZ w).c = s.c := rfl
@[simp] theorem State.z_setNZ (s : State) (w : Byte) : (s.setNZ w).z = isZero w := rfl
@[simp] theorem State.i_setNZ (s : State) (w : Byte) : (s.setNZ w).i = s.i := rfl
@[simp] theorem State.d_setNZ (s : State) (w : Byte) : (s.setNZ w).d = s.d := rfl
@[simp] theorem State.b_setNZ (s : State) (w : Byte) : (s.setNZ w).b = s.b := rfl
@[simp] theorem State.v_setNZ (s : State) (w : Byte) : (s.setNZ w).v = s.v := rfl
@[simp] theorem State.n_setNZ (s : State) (w : Byte) : (s.setNZ w).n = isNegative w := rfl
@[simp] theorem State.mem_setNZ (s : State) (w : Byte) : (s.setNZ w).mem = s.mem := rfl
@[simp] theorem State.cyc_setNZ (s : State) (w : Byte) : (s.setNZ w).cyc = s.cyc := rfl
@[simp] theorem State.fault_setNZ (s : State) (w : Byte) : (s.setNZ w).fault = s.fault := rfl

@[simp] theorem State.a_memWrite (s : State) (p : Addr) (w : Byte) : (s.memWrite p w).a = s.a := rfl
@[simp] theorem State.x_memWrite (s : State) (p : Addr) (w : Byte) : (s.memWrite p w).x = s.x := rfl
@[simp] theorem State.y_memWrite (s : State) (p : Addr) (w : Byte) : (s.memWrite p w).y = s.y := rfl
@[simp] theorem State.sp_memWrite (s : State) (p : Addr) (w : Byte) : (s.memWrite p w).sp = s.sp := rfl
@[simp] theorem State.pc_memWrite (s : State) (p : Addr) (w : Byte) : (s.memWrite p w).pc = s.pc := rfl
@[simp] theorem State.c_memWrite (s : State) (p : Addr) (w : Byte) : (s.memWrite p w).c = s.c := rfl
@[simp] theorem State.z_memWrite (s : State) (p : Addr) (w : Byte) : (s.memWrite p w).z = s.z := rfl
@[simp] theorem State.i_memWrite (s : State) (p : Addr) (w : Byte) : (s.memWrite p w).i = s.i := rfl
@[simp] theorem State.d_memWrite (s : State) (p : Addr) (w : Byte) : (s.memWrite p w).d = s.d := rfl
@[simp] theorem State.b_memWrite (s : State) (p : Addr) (w : Byte) : (s.memWrite p w).b = s.b := rfl
@[simp] theorem State.v_memWrite (s : State) (p : Addr) (w : Byte) : (s.memWrite p w).v = s.v := rfl
@[simp] theorem State.n_memWrite (s : State) (p : Addr) (w : Byte) : (s.memWrite p w).n = s.n := rfl
@[simp] theorem State.mem_memWrite (s : State) (p : Addr) (w : Byte) : (s.memWrite p w).mem = s.mem.write p w := rfl
@[simp] theorem State.cyc_memWrite (s : State) (p : Addr) (w : Byte) : (s.memWrite p w).cyc = s.cyc := rfl
@[simp] theorem State.fault_memWrite (s : State) (p : Addr) (w : Byte) : (s.memWrite p w).fault = s.fault := rfl

@[simp] theorem State.a_advance (s : State) (k : Nat) : (s.advance k).a = s.a := rfl
@[simp] theorem State.x_advance (s : State) (k : Nat) : (s.advance k).x = s.x := rfl
@[simp] theorem State.y_advance (s : State) (k : Nat) : (s.advance k).y = s.y := rfl
@[simp] theorem State.sp_advance (s : State) (k : Nat) : (s.advance k).sp = s.sp := rfl
@[simp] theorem State.pc_advance (s : State) (k : Nat) : (s.advance k).pc = s.pc + BitVec.ofNat 16 k := rfl
@[simp] theorem State.c_advance (s : State) (k : Nat) : (s.advance k).c = s.c := rfl
@[simp] theorem State.z_advance (s : State) (k : Nat) : (s.advance k).z = s.z := rfl
@[simp] theorem State.i_advance (s : State) (k : Nat) : (s.advance k).i = s.i := rfl
@[simp] theorem State.d_advance (s : State) (k : Nat) : (s.advance k).d = s.d := rfl
@[simp] theorem State.b_advance (s : State) (k : Nat) : (s.advance k).b = s.b := rfl
@[simp] theorem State.v_advance (s : State) (k : Nat) : (s.advance k).v = s.v := rfl
@[simp] theorem State.n_advance (s : State) (k : Nat) : (s.advance k).n = s.n := rfl
@[simp] theorem State.mem_advance (s : State) (k : Nat) : (s.advance k).mem = s.mem := rfl
@[simp] theorem State.cyc_advance (s : State) (k : Nat) : (s.advance k).cyc = s.cyc := rfl
@[simp] theorem State.fault_advance (s : State) (k : Nat) : (s.advance k).fault = s.fault := rfl

@[simp] theorem State.a_charge (s : State) (k : Nat) : (s.charge k).a = s.a := rfl
@[simp] theorem State.x_charge (s : State) (k : Nat) : (s.charge k).x = s.x := rfl
@[simp] theorem State.y_charge (s : State) (k : Nat) : (s.charge k).y = s.y := rfl
@[simp] theorem State.sp_charge (s : State) (k : Nat) : (s.charge k).sp = s.sp := rfl
@[simp] theorem State.pc_charge (s : State) (k : Nat) : (s.charge k).pc = s.pc := rfl
@[simp] theorem State.c_charge (s : State) (k : Nat) : (s.charge k).c = s.c := rfl
@[simp] theorem State.z_charge (s : State) (k : Nat) : (s.charge k).z = s.z := rfl
@[simp] theorem State.i_charge (s : State) (k : Nat) : (s.charge k).i = s.i := rfl
@[simp] theorem State.d_charge (s : State) (k : Nat) : (s.charge k).d = s.d := rfl
@[simp] theorem State.b_charge (s : State) (k : Nat) : (s.charge k).b = s.b := rfl
@[simp] theorem State.v_charge (s : State) (k : Nat) : (s.charge k).v = s.v := rfl
@[simp] theorem State.n_charge (s : State) (k : Nat) : (s.charge k).n = s.n := rfl
@[simp] theorem State.mem_charge (s : State) (k : Nat) : (s.charge k).mem = s.mem := rfl
@[simp] theorem State.cyc_charge (s : State) (k : Nat) : (s.charge k).cyc = s.cyc - (k : Int) := rfl
@[simp] theorem State.fault_charge (s : State) (k : Nat) : (s.charge k).fault = s.fault := rfl

@[simp] theorem State.a_fetch8 (s : State) : (s.fetch8.2).a = s.a := rfl
@[simp] theorem State.x_fetch8 (s : State) : (s.fetch8.2).x = s.x := rfl
@[simp] theorem State.y_fetch8 (s : State) : (s.fetch8.2).y = s.y := rfl
@[simp] theorem State.sp_fetch8 (s : State) : (s.fetch8.2).sp = s.sp := rfl
@[simp] theorem State.pc_fetch8 (s : State) : (s.fetch8.2).pc = s.pc + 1 := rfl
@[simp] theorem State.c_fetch8 (s : State) : (s.fetch8.2).c = s.c := rfl
@[simp] theorem State.z_fetch8 (s : State) : (s.fetch8.2).z = s.z := rfl
@[simp] theorem State.i_fetch8 (s : State) : (s.fetch8.2).i = s.i := rfl
@[simp] theorem State.d_fetch8 (s : State) : (s.fetch8.2).d = s.d := rfl
@[simp] theorem State.b_fetch8 (s : State) : (s.fetch8.2).b = s.b := rfl
@[simp] theorem State.v_fetch8 (s : State) : (s.fetch8.2).v = s.v := rfl
@[simp] theorem State.n_fetch8 (s : State) : (s.fetch8.2).n = s.n := rfl
@[simp] theorem State.mem_fetch8 (s : State) : (s.fetch8.2).mem = s.mem := rfl
@[simp] theorem State.cyc_fetch8 (s : State) : (s.fetch8.2).cyc = s.cyc := rfl
@[simp] theorem State.fault_fetch8 (s : State) : (s.fetch8.2).fault = s.fault := rfl

@[simp] theorem State.a_raise (s : State) : (s.raiseUnknownOpcode).a = s.a := rfl
@[simp] theorem State.x_raise (s : State) : (s.raiseUnknownOpcode).x = s.x := rfl
@[simp] theorem State.y_raise (s : State) : (s.raiseUnknownOpcode).y = s.y := rfl
@[simp] theorem State.sp_raise (s : State) : (s.raiseUnknownOpcode).sp = s.sp := rfl
@[simp] theorem State.pc_raise (s : State) : (s.raiseUnknownOpcode).pc = s.pc + 1 := rfl
@[simp] theorem State.c_raise (s : State) : (s.raiseUnknownOpcode).c = s.c := rfl
@[simp] theorem State.z_raise (s : State) : (s.raiseUnknownOpcode).z = s.z := rfl
@[simp] theorem State.i_raise (s : State) : (s.raiseUnknownOpcode).i = s.i := rfl
@[simp] theorem State.d_raise (s : State) : (s.raiseUnknownOpcode).d = s.d := rfl
@[simp] theorem State.b_raise (s : State) : (s.raiseUnknownOpcode).b = s.b := rfl
@[simp] theorem State.v_raise (s : State) : (s.raiseUnknownOpcode).v = s.v := rfl
@[simp] theorem State.n_raise (s : State) : (s.raiseUnknownOpcode).n = s.n := rfl
@[simp] theorem State.mem_raise (s : State) : (s.raiseUnknownOpcode).mem = s.mem := rfl
@[simp] theorem State.cyc_raise (s : State) : (s.raiseUnknownOpcode).cyc = s.cyc := rfl
@[simp] theorem State.fault_raise (s : State) : (s.raiseUnknownOpcode).fault = some ⟨s.mem.read s.pc, s.pc⟩ := rfl

@[simp] theorem State.a_resetWith (w : Byte) (p : Addr) : (State.resetWith w p).a = 0x00 := rfl
@[simp] theorem State.x_resetWith (w : Byte) (p : Addr) : (State.resetWith w p).x = 0x00 := rfl
@[simp] theorem State.y_resetWith (w : Byte) (p : Addr) : (State.resetWith w p).y = 0x00 := rfl
@[simp] theorem State.sp_resetWith (w : Byte) (p : Addr) : (State.resetWith w p).sp = w := rfl
@[simp] theorem State.pc_resetWith (w : Byte) (p : Addr) : (State.resetWith w p).pc = p := rfl
@[simp] theorem State.c_resetWith (w : Byte) (p : Addr) : (State.resetWith w p).c = false := rfl
@[simp] theorem State.z_resetWith (w : Byte) (p : Addr) : (State.resetWith w p).z = false := rfl
@[simp] theorem State.i_resetWith (w : Byte) (p : Addr) : (State.resetWith w p).i = false := rfl
@[simp] theorem State.d_resetWith (w : Byte) (p : Addr) : (State.resetWith w p).d = false := rfl
@[simp] theorem State.b_resetWith (w : Byte) (p : Addr) : (State.resetWith w p).b = false := rfl
@[simp] theorem State.v_resetWith (w : Byte) (p : Addr) : (State.resetWith w p).v = false := rfl
@[simp] theorem State.n_resetWith (w : Byte) (p : Addr) : (State.resetWith w p).n = false := rfl
@[simp] theorem State.mem_resetWith (w : Byte) (p : Addr) : (State.resetWith w p).mem = [] := rfl
@[simp] theorem State.cyc_resetWith (w : Byte) (p : Addr) : (State.resetWith w p).cyc = 0 := rfl
@[simp] theorem State.fault_resetWith (w : Byte) (p : Addr) : (State.resetWith w p).fault = none := rfl

/-! ### Registers and flags as a whole -/

@[simp] theorem State.reg_setNZ (s : State) (w : Byte) (r : Reg) : (s.setNZ w).reg r = s.reg r := by
  cases r <;> rfl
@[simp] theorem State.reg_memWrite (s : State) (p : Addr) (w : Byte) (r : Reg) : (s.memWrite p w).reg r = s.reg r := by
  cases r <;> rfl
@[simp] theorem State.reg_advance (s : State) (k : Nat) (r : Reg) : (s.advance k).reg r = s.reg r := by
  cases r <;> rfl
@[simp] theorem State.reg_charge (s : State) (k : Nat) (r : Reg) : (s.charge k).reg r = s.reg r := by
  cases r <;> rfl
@[simp] theorem State.reg_setFlag (s : State) (k : Flag) (w : Bool) (r : Reg) : (s.setFlag k w).reg r = s.reg r := by
  cases r <;> (cases k <;> rfl)
@[simp] theorem State.reg_fetch8 (s : State) (r : Reg) : (s.fetch8.2).reg r = s.reg r := by
  cases r <;> rfl
@[simp] theorem State.reg_raise (s : State) (r : Reg) : (s.raiseUnknownOpcode).reg r = s.reg r := by
  cases r <;> rfl
@[simp] theorem State.flag_memWrite (s : State) (p : Addr) (w : Byte) (q : Flag) : (s.memWrite p w).flag q = s.flag q := by
  cases q <;> rfl
@[simp] theorem State.flag_advance (s : State) (k : Nat) (q : Flag) : (s.advance k).flag q = s.flag q := by
  cases q <;> rfl
@[simp] theorem State.flag_charge (s : State) (k : Nat) (q : Flag) : (s.charge k).flag q = s.flag q := by
  cases q <;> rfl
@[simp] theorem State.flag_setReg (s : State) (r : Reg) (w : Byte) (q : Flag) : (s.setReg r w).flag q = s.flag q := by
  cases q <;> (cases r <;> rfl)
@[simp] theorem State.flag_fetch8 (s : State) (q : Flag) : (s.fetch8.2).flag q = s.flag q := by
  cases q <;> rfl
@[simp] theorem State.flag_raise (s : State) (q : Flag) : (s.raiseUnknownOpcode).flag q = s.flag q := by
  cases q <;> rfl

end Sys2Proof.Machine
end

