-- ==== Sys2Proof/Laws/Memory.lean ====
section
/-! SUPPORT. The laws of the memory interface (R51, R52): a read after a write, and that a write keeps
the canonical form. -/

namespace Sys2Proof.Machine

@[simp] theorem Memory.read_nil (p : Addr) : Memory.read [] p = 0x00 := rfl

/-- The value the first cell with a key holds, the unlisted value if there is none: `Memory.read`
on the key itself. -/
theorem Memory.read_cons (cell : Host.Cell) (m : Memory) (p : Addr) :
    Memory.read (cell :: m) p = if cell.1 = p.toNat then cell.2 else Memory.read m p := by
  unfold Memory.read
  by_cases h : cell.1 = p.toNat <;> simp [h]

/-- After a filter that drops a key, that key reads as unlisted and every other key as before. -/
theorem Memory.read_filter (m : Memory) (p q : Addr) :
    Memory.read (m.filter fun cell => cell.1 != p.toNat) q =
      if q = p then Memory.unlisted else Memory.read m q := by
  induction m with
  | nil => simp [Memory.unlisted]
  | cons cell m ih =>
    by_cases hk : cell.1 = p.toNat
    · rw [List.filter_cons_of_neg (by simp [hk]), ih, Memory.read_cons, hk]
      by_cases hq : q = p
      · simp [hq]
      · have : p.toNat ≠ q.toNat := fun h => hq (BitVec.eq_of_toNat_eq h).symm
        simp [hq, this]
    · rw [List.filter_cons_of_pos (by simp [hk]), Memory.read_cons, Memory.read_cons, ih]
      by_cases hq : q = p
      · subst hq; simp [hk]
      · simp [hq]

/-- After an insertion the key reads as the inserted value, if no cell held the key before. -/
theorem Memory.read_insert (m : Memory) (p q : Addr) (w : Byte)
    (fresh : ∀ cell ∈ m, cell.1 ≠ p.toNat) :
    Memory.read (Memory.insert p.toNat w m) q = if q = p then w else Memory.read m q := by
  have key : ∀ r : Addr, (p.toNat = r.toNat) ↔ r = p :=
    fun r => ⟨fun h => (BitVec.eq_of_toNat_eq h).symm, fun h => by rw [h]⟩
  induction m with
  | nil => simp [Memory.insert, Memory.read_cons, key]
  | cons cell m ih =>
    have hc := fresh cell (by simp)
    have ih := ih fun c hm => fresh c (by simp [hm])
    unfold Memory.insert
    split
    · simp [Memory.read_cons, key]
    · rw [Memory.read_cons, ih, Memory.read_cons]
      by_cases hq : q = p
      · subst hq; simp [hc]
      · simp [hq]

/-- R52: the byte written reads back, and no other byte changes. It holds of every list. -/
theorem Memory.read_write (m : Memory) (p q : Addr) (w : Byte) :
    (m.write p w).read q = if q = p then w else m.read q := by
  have fresh : ∀ cell ∈ m.filter (fun cell => cell.1 != p.toNat), cell.1 ≠ p.toNat := by
    intro cell hc
    simpa using (List.mem_filter.mp hc).2
  unfold Memory.write
  by_cases hw : w = Memory.unlisted
  · simp only [hw, if_true, Memory.read_filter]
  · simp only [hw, if_false, Memory.read_insert _ p q w fresh, Memory.read_filter]
    split <;> rfl

@[simp] theorem Memory.read_write_same (m : Memory) (p : Addr) (w : Byte) :
    (m.write p w).read p = w := by simp [Memory.read_write]

theorem Memory.read_write_other (m : Memory) (p q : Addr) (w : Byte) (h : q ≠ p) :
    (m.write p w).read q = m.read q := by simp [Memory.read_write, h]

/-! ### The canonical form -/

/-- The form from a bound is the form from any smaller one. -/
theorem Memory.wfFrom_mono {low low' : Nat} (h : low' ≤ low) :
    ∀ {m : Memory}, Memory.wfFrom low m = true → Memory.wfFrom low' m = true
  | [], _ => rfl
  | cell :: m, hm => by
    simp only [Memory.wfFrom, Bool.and_eq_true, decide_eq_true_eq] at hm ⊢
    exact ⟨⟨⟨by omega, hm.1.1.2⟩, hm.1.2⟩, hm.2⟩

theorem Memory.wfFrom_filter (f : Host.Cell → Bool) :
    ∀ {low : Nat} {m : Memory}, Memory.wfFrom low m = true →
      Memory.wfFrom low (m.filter f) = true
  | _, [], _ => rfl
  | low, cell :: m, hm => by
    simp only [Memory.wfFrom, Bool.and_eq_true, decide_eq_true_eq] at hm
    have ih := Memory.wfFrom_filter f hm.2
    by_cases hf : f cell = true
    · rw [List.filter_cons_of_pos hf]
      simp only [Memory.wfFrom, Bool.and_eq_true, decide_eq_true_eq]
      exact ⟨hm.1, ih⟩
    · rw [List.filter_cons_of_neg hf]
      exact Memory.wfFrom_mono (by omega) ih

theorem Memory.wfFrom_insert (key : Nat) (w : Byte) (hk : key < 65536)
    (hw : w ≠ Memory.unlisted) :
    ∀ {low : Nat} {m : Memory}, low ≤ key → (∀ cell ∈ m, cell.1 ≠ key) →
      Memory.wfFrom low m = true → Memory.wfFrom low (Memory.insert key w m) = true
  | low, [], hl, _, _ => by simp [Memory.insert, Memory.wfFrom, hl, hk, hw]
  | low, cell :: m, hl, fresh, hm => by
    have hc := fresh cell (by simp)
    simp only [Memory.wfFrom, Bool.and_eq_true, decide_eq_true_eq] at hm
    unfold Memory.insert
    split
    · simp only [Memory.wfFrom, Bool.and_eq_true, decide_eq_true_eq]
      exact ⟨⟨⟨hl, hk⟩, hw⟩, ⟨⟨by omega, hm.1.1.2⟩, hm.1.2⟩, hm.2⟩
    · have ih := Memory.wfFrom_insert key w hk hw (low := cell.1 + 1) (by omega)
        (fun c h => fresh c (by simp [h])) hm.2
      simp only [Memory.wfFrom, Bool.and_eq_true, decide_eq_true_eq]
      exact ⟨hm.1, ih⟩

/-- A write keeps the canonical form. -/
theorem Memory.wf_write (m : Memory) (p : Addr) (w : Byte) (h : m.wf = true) :
    (m.write p w).wf = true := by
  unfold Memory.write Memory.wf at *
  by_cases hw : w = Memory.unlisted
  · simpa [hw] using Memory.wfFrom_filter _ h
  · simp only [hw, if_false]
    refine Memory.wfFrom_insert _ _ p.isLt hw (Nat.zero_le _) ?_ (Memory.wfFrom_filter _ h)
    intro cell hc
    simpa using (List.mem_filter.mp hc).2

@[simp] theorem Memory.wf_nil : Memory.wf [] = true := rfl

end Sys2Proof.Machine
end

