-- ==== Sys2Proof/Laws/Families.lean ====
section
/-! SUPPORT. One lemma for each shared operation that says everything it does: the next state as one
record over the state before. A proof about an instruction cites these and unfolds no operation. -/

namespace Sys2Proof.Machine

/-- LOAD (R137), TRANSFER (R139) and INX, INY, DEX, DEY (R178) end alike: a register written, Z and N
from it. -/
theorem setReg_setNZ_eq (s : State) (len k : Nat) (r : Reg) (w : Byte) :
    (((s.advance len).setReg r w).setNZ w).charge k =
      { s.setReg r w with
        z := isZero w, n := isNegative w
        pc := s.pc + BitVec.ofNat 16 len
        cyc := s.cyc - (k : Int) } := by
  cases r <;> rfl

theorem load_eq (r : Reg) (o : ValueOperand) (s : State) :
    load r o s =
      { s.setReg r (operandValue o s) with
        z := isZero (operandValue o s), n := isNegative (operandValue o s)
        pc := s.pc + BitVec.ofNat 16 o.mode.length
        cyc := s.cyc - (cost .load o.mode (operandCrossed o s) : Int) } :=
  setReg_setNZ_eq s _ _ r _

theorem store_eq (r : Reg) (o : MemOperand) (s : State) :
    store r o s =
      { s with
        mem := s.mem.write (resolveAddr o s).ea (s.reg r)
        pc := s.pc + BitVec.ofNat 16 o.mode.length
        cyc := s.cyc - (cost .store o.mode (resolveAddr o s).crossed : Int) } := rfl

theorem transfer_eq (src dst : Reg) (s : State) :
    transfer src dst s =
      { s.setReg dst (s.reg src) with
        z := isZero (s.reg src), n := isNegative (s.reg src)
        pc := s.pc + 1
        cyc := s.cyc - (2 : Int) } :=
  setReg_setNZ_eq s _ _ dst _

theorem adc_eq (o : ValueOperand) (s : State) :
    adc o s =
      { s with
        a := (add8 s.a (operandValue o s) s.c).result
        c := (add8 s.a (operandValue o s) s.c).carry
        v := (add8 s.a (operandValue o s) s.c).overflow
        z := isZero (add8 s.a (operandValue o s) s.c).result
        n := isNegative (add8 s.a (operandValue o s) s.c).result
        pc := s.pc + BitVec.ofNat 16 o.mode.length
        cyc := s.cyc - (cost .adc o.mode (operandCrossed o s) : Int) } := rfl

theorem logical_eq (op : LogicOp) (o : ValueOperand) (s : State) :
    logical op o s =
      { s with
        a := logic8 op s.a (operandValue o s)
        z := isZero (logic8 op s.a (operandValue o s))
        n := isNegative (logic8 op s.a (operandValue o s))
        pc := s.pc + BitVec.ofNat 16 o.mode.length
        cyc := s.cyc - (cost .logical o.mode (operandCrossed o s) : Int) } := rfl

theorem bitTest_eq (o : MemOperand) (s : State) :
    bitTest o s =
      { s with
        z := (bitTest8 s.a (s.mem.read (resolveAddr o s).ea)).zero
        v := (bitTest8 s.a (s.mem.read (resolveAddr o s).ea)).overflow
        n := (bitTest8 s.a (s.mem.read (resolveAddr o s).ea)).negative
        pc := s.pc + BitVec.ofNat 16 o.mode.length
        cyc := s.cyc - (cost .bitTest o.mode (resolveAddr o s).crossed : Int) } := rfl

theorem incDecMemory_eq (dir : Direction) (o : MemOperand) (s : State) :
    incDecMemory dir o s =
      { s with
        mem := s.mem.write (resolveAddr o s).ea (incDec8 dir (s.mem.read (resolveAddr o s).ea))
        z := isZero (incDec8 dir (s.mem.read (resolveAddr o s).ea))
        n := isNegative (incDec8 dir (s.mem.read (resolveAddr o s).ea))
        pc := s.pc + BitVec.ofNat 16 o.mode.length
        cyc := s.cyc - (cost .incDecMemory o.mode (resolveAddr o s).crossed : Int) } := rfl

theorem incDecRegister_eq (dir : Direction) (r : Reg) (s : State) :
    incDecRegister dir r s =
      { s.setReg r (incDec8 dir (s.reg r)) with
        z := isZero (incDec8 dir (s.reg r)), n := isNegative (incDec8 dir (s.reg r))
        pc := s.pc + 1
        cyc := s.cyc - (2 : Int) } :=
  setReg_setNZ_eq s _ _ r _

theorem shift_accumulator_eq (kind : ShiftKind) (s : State) :
    shift kind .accumulator s =
      { s with
        a := (shift8 kind s.a s.c).result
        c := (shift8 kind s.a s.c).carry
        z := isZero (shift8 kind s.a s.c).result
        n := isNegative (shift8 kind s.a s.c).result
        pc := s.pc + 1
        cyc := s.cyc - (2 : Int) } := rfl

theorem shift_memory_eq (kind : ShiftKind) (o : MemOperand) (s : State) :
    shift kind (.memory o) s =
      { s with
        mem := s.mem.write (resolveAddr o s).ea
          (shift8 kind (s.mem.read (resolveAddr o s).ea) s.c).result
        c := (shift8 kind (s.mem.read (resolveAddr o s).ea) s.c).carry
        z := isZero (shift8 kind (s.mem.read (resolveAddr o s).ea) s.c).result
        n := isNegative (shift8 kind (s.mem.read (resolveAddr o s).ea) s.c).result
        pc := s.pc + BitVec.ofNat 16 o.mode.length
        cyc := s.cyc - (cost .shiftRotate o.mode false : Int) } := rfl

theorem writeFlag_eq (k : Flag) (bit : Bool) (s : State) :
    writeFlag k bit s =
      { s.setFlag k bit with pc := s.pc + 1, cyc := s.cyc - (2 : Int) } := by
  cases k <;> rfl

theorem branch_taken_eq (k : Flag) (takenWhen : Bool) (rel8 : Byte) (s : State)
    (h : s.flag k = takenWhen) :
    branch k takenWhen rel8 s =
      { s with
        pc := s.pc + 2 + signExtend16 rel8
        cyc := s.cyc -
          (branchCost true (pagesDiffer (s.pc + 2 + signExtend16 rel8) (s.pc + 2)) : Int) } := by
  simp only [branch, h, if_true]; rfl

theorem branch_not_taken_eq (k : Flag) (takenWhen : Bool) (rel8 : Byte) (s : State)
    (h : s.flag k ≠ takenWhen) :
    branch k takenWhen rel8 s = { s with pc := s.pc + 2, cyc := s.cyc - (2 : Int) } := by
  simp only [branch, h, if_false]; rfl

theorem nop_eq (s : State) : nop s = { s with pc := s.pc + 1, cyc := s.cyc - (2 : Int) } := rfl

end Sys2Proof.Machine
end

