-- ==== Sys2Proof/Laws/Step.lean ====
section
/-! SUPPORT. The two cases of a step (R232, R250) and the latched state (R253). -/

namespace Sys2Proof.Machine

/-- The entry found at pc gives the instruction built from the two bytes after it. -/
theorem fetchInstr_some (s : State) (form : Form) (h : lookup (s.mem.read s.pc) = some form) :
    s.fetchInstr = some (form.build (s.mem.read (s.pc + 1)) (s.mem.read (s.pc + 2))) := by
  simp [State.fetchInstr, h]

theorem fetchInstr_none (s : State) :
    s.fetchInstr = none ↔ lookup (s.mem.read s.pc) = none := by
  simp [State.fetchInstr]

theorem step_latched (s : State) (e : UnknownOpcode) (h : s.fault = some e) :
    step s = .fault (.latched e) := by
  simp [step, h]

theorem step_exec (s : State) (i : Instr) (h : s.fault = none) (hi : s.fetchInstr = some i) :
    step s = exec i s := by
  simp [step, h, hi]

theorem step_raises (s : State) (h : s.fault = none) (hi : s.fetchInstr = none) :
    step s = .next s.raiseUnknownOpcode := by
  simp [step, h, hi]

/-- Everything a step can do: it is refused by the latch, raises the exception or runs the
instruction that stands at pc. -/
theorem step_cases (s : State) :
    (∃ e, s.fault = some e ∧ step s = .fault (.latched e)) ∨
    (s.fault = none ∧ s.fetchInstr = none ∧ step s = .next s.raiseUnknownOpcode) ∨
    (∃ i, s.fault = none ∧ s.fetchInstr = some i ∧ step s = exec i s) := by
  cases hf : s.fault with
  | some e => exact .inl ⟨e, rfl, step_latched s e hf⟩
  | none =>
    cases hi : s.fetchInstr with
    | none => exact .inr (.inl ⟨rfl, rfl, step_raises s hf hi⟩)
    | some i => exact .inr (.inr ⟨i, rfl, rfl, step_exec s i hf hi⟩)

end Sys2Proof.Machine
end

