-- ==== Sys2Proof/Laws/Exec.lean ====
section
/-! SUPPORT. Everything `exec` can do, said once: each of the 107 instructions is one of the shared
operations on an operand of the mode that its descriptor names. A proof about all instructions takes
the fourteen cases of `Shape` and unfolds no arm. -/

namespace Sys2Proof.Machine

/-- The operand of a load-style instruction, as its bytes give it (R83). -/
def Reads (i : Instr) : ValueOperand → Prop
  | .immediate imm8 => memOperand i = none ∧ (encode i).tail = [imm8]
  | .memory o => memOperand i = some o

/-- The state change of an instruction that completes, one case for each family and place. -/
inductive Shape (i : Instr) : (State → State) → Prop
  | load (r : Reg) (o : ValueOperand) (hd : i.descriptor = ⟨.load r, o.mode⟩) (ho : Reads i o) :
      Shape i (load r o)
  | store (r : Reg) (o : MemOperand) (hd : i.descriptor = ⟨.store r, o.mode⟩)
      (ho : memOperand i = some o) : Shape i (store r o)
  | transfer (src dst : Reg) (hd : i.descriptor = ⟨.transfer src dst, .implied⟩)
      (ho : memOperand i = none) : Shape i (transfer src dst)
  | adc (o : ValueOperand) (hd : i.descriptor = ⟨.adc, o.mode⟩) (ho : Reads i o) :
      Shape i (adc o)
  | logical (op : LogicOp) (o : ValueOperand) (hd : i.descriptor = ⟨.logical op, o.mode⟩)
      (ho : Reads i o) : Shape i (logical op o)
  | bitTest (o : MemOperand) (hd : i.descriptor = ⟨.bitTest, o.mode⟩)
      (ho : memOperand i = some o) : Shape i (bitTest o)
  | incDecMemory (dir : Direction) (o : MemOperand)
      (hd : i.descriptor = ⟨.incDec dir .memory, o.mode⟩) (ho : memOperand i = some o) :
      Shape i (incDecMemory dir o)
  | incDecRegister (dir : Direction) (r : Reg)
      (hd : i.descriptor = ⟨.incDec dir (.register r), .implied⟩) (ho : memOperand i = none) :
      Shape i (incDecRegister dir r)
  | shiftAccumulator (kind : ShiftKind) (hd : i.descriptor = ⟨.shift kind, .accumulator⟩)
      (ho : memOperand i = none) : Shape i (shift kind .accumulator)
  | shiftMemory (kind : ShiftKind) (o : MemOperand) (hd : i.descriptor = ⟨.shift kind, o.mode⟩)
      (ho : memOperand i = some o) : Shape i (shift kind (.memory o))
  | setFlag (k : Flag) (hd : i.descriptor = ⟨.setFlag k, .implied⟩) (ho : memOperand i = none) :
      Shape i (writeFlag k true)
  | clearFlag (k : Flag) (hd : i.descriptor = ⟨.clearFlag k, .implied⟩)
      (ho : memOperand i = none) : Shape i (writeFlag k false)
  | branch (k : Flag) (takenWhen : Bool) (rel8 : Byte)
      (hd : i.descriptor = ⟨.branch k takenWhen, .relative⟩)
      (ho : memOperand i = none ∧ (encode i).tail = [rel8]) : Shape i (branch k takenWhen rel8)
  | nop (hd : i.descriptor = ⟨.nop, .implied⟩) (ho : memOperand i = none) : Shape i nop

/-- The two bytes of an ABSOLUTE operand give the operand back. -/
theorem absolute_join (a : Addr) :
    some (MemOperand.absolute (joinBytes (hiByte a) (loByte a))) = some (.absolute a) := by
  rw [joinBytes_hi_lo]

@[inherit_doc absolute_join]
theorem absoluteX_join (a : Addr) :
    some (MemOperand.absoluteX (joinBytes (hiByte a) (loByte a))) = some (.absoluteX a) := by
  rw [joinBytes_hi_lo]

@[inherit_doc absolute_join]
theorem absoluteY_join (a : Addr) :
    some (MemOperand.absoluteY (joinBytes (hiByte a) (loByte a))) = some (.absoluteY a) := by
  rw [joinBytes_hi_lo]

/-- Every instruction completes in every state, by the operation its descriptor names. -/
theorem exec_shape (i : Instr) : ∃ f, Shape i f ∧ ∀ s, exec i s = .next (f s) :=
  match i with
  | .ldaImm v => ⟨_, .load .a (.immediate v) rfl ⟨rfl, rfl⟩, fun _ => rfl⟩
  | .ldaZp v => ⟨_, .load .a (.memory (.zeroPage v)) rfl rfl, fun _ => rfl⟩
  | .ldaZpx v => ⟨_, .load .a (.memory (.zeroPageX v)) rfl rfl, fun _ => rfl⟩
  | .ldaAbs v => ⟨_, .load .a (.memory (.absolute v)) rfl (absolute_join v), fun _ => rfl⟩
  | .ldaAbx v => ⟨_, .load .a (.memory (.absoluteX v)) rfl (absoluteX_join v), fun _ => rfl⟩
  | .ldaAby v => ⟨_, .load .a (.memory (.absoluteY v)) rfl (absoluteY_join v), fun _ => rfl⟩
  | .ldxImm v => ⟨_, .load .x (.immediate v) rfl ⟨rfl, rfl⟩, fun _ => rfl⟩
  | .ldxZp v => ⟨_, .load .x (.memory (.zeroPage v)) rfl rfl, fun _ => rfl⟩
  | .ldxZpy v => ⟨_, .load .x (.memory (.zeroPageY v)) rfl rfl, fun _ => rfl⟩
  | .ldxAbs v => ⟨_, .load .x (.memory (.absolute v)) rfl (absolute_join v), fun _ => rfl⟩
  | .ldxAby v => ⟨_, .load .x (.memory (.absoluteY v)) rfl (absoluteY_join v), fun _ => rfl⟩
  | .ldyImm v => ⟨_, .load .y (.immediate v) rfl ⟨rfl, rfl⟩, fun _ => rfl⟩
  | .ldyZp v => ⟨_, .load .y (.memory (.zeroPage v)) rfl rfl, fun _ => rfl⟩
  | .ldyZpx v => ⟨_, .load .y (.memory (.zeroPageX v)) rfl rfl, fun _ => rfl⟩
  | .ldyAbs v => ⟨_, .load .y (.memory (.absolute v)) rfl (absolute_join v), fun _ => rfl⟩
  | .ldyAbx v => ⟨_, .load .y (.memory (.absoluteX v)) rfl (absoluteX_join v), fun _ => rfl⟩
  | .staZp v => ⟨_, .store .a (.zeroPage v) rfl rfl, fun _ => rfl⟩
  | .staZpx v => ⟨_, .store .a (.zeroPageX v) rfl rfl, fun _ => rfl⟩
  | .staAbs v => ⟨_, .store .a (.absolute v) rfl (absolute_join v), fun _ => rfl⟩
  | .staAbx v => ⟨_, .store .a (.absoluteX v) rfl (absoluteX_join v), fun _ => rfl⟩
  | .staAby v => ⟨_, .store .a (.absoluteY v) rfl (absoluteY_join v), fun _ => rfl⟩
  | .stxZp v => ⟨_, .store .x (.zeroPage v) rfl rfl, fun _ => rfl⟩
  | .stxZpy v => ⟨_, .store .x (.zeroPageY v) rfl rfl, fun _ => rfl⟩
  | .stxAbs v => ⟨_, .store .x (.absolute v) rfl (absolute_join v), fun _ => rfl⟩
  | .styZp v => ⟨_, .store .y (.zeroPage v) rfl rfl, fun _ => rfl⟩
  | .styZpx v => ⟨_, .store .y (.zeroPageX v) rfl rfl, fun _ => rfl⟩
  | .styAbs v => ⟨_, .store .y (.absolute v) rfl (absolute_join v), fun _ => rfl⟩
  | .tax => ⟨_, .transfer .a .x rfl rfl, fun _ => rfl⟩
  | .tay => ⟨_, .transfer .a .y rfl rfl, fun _ => rfl⟩
  | .txa => ⟨_, .transfer .x .a rfl rfl, fun _ => rfl⟩
  | .tya => ⟨_, .transfer .y .a rfl rfl, fun _ => rfl⟩
  | .tsx => ⟨_, .transfer .sp .x rfl rfl, fun _ => rfl⟩
  | .txs => ⟨_, .transfer .x .sp rfl rfl, fun _ => rfl⟩
  | .adcImm v => ⟨_, .adc (.immediate v) rfl ⟨rfl, rfl⟩, fun _ => rfl⟩
  | .adcZp v => ⟨_, .adc (.memory (.zeroPage v)) rfl rfl, fun _ => rfl⟩
  | .adcZpx v => ⟨_, .adc (.memory (.zeroPageX v)) rfl rfl, fun _ => rfl⟩
  | .adcAbs v => ⟨_, .adc (.memory (.absolute v)) rfl (absolute_join v), fun _ => rfl⟩
  | .adcAbx v => ⟨_, .adc (.memory (.absoluteX v)) rfl (absoluteX_join v), fun _ => rfl⟩
  | .adcAby v => ⟨_, .adc (.memory (.absoluteY v)) rfl (absoluteY_join v), fun _ => rfl⟩
  | .andImm v => ⟨_, .logical .and (.immediate v) rfl ⟨rfl, rfl⟩, fun _ => rfl⟩
  | .andZp v => ⟨_, .logical .and (.memory (.zeroPage v)) rfl rfl, fun _ => rfl⟩
  | .andZpx v => ⟨_, .logical .and (.memory (.zeroPageX v)) rfl rfl, fun _ => rfl⟩
  | .andAbs v => ⟨_, .logical .and (.memory (.absolute v)) rfl (absolute_join v), fun _ => rfl⟩
  | .andAbx v => ⟨_, .logical .and (.memory (.absoluteX v)) rfl (absoluteX_join v), fun _ => rfl⟩
  | .andAby v => ⟨_, .logical .and (.memory (.absoluteY v)) rfl (absoluteY_join v), fun _ => rfl⟩
  | .eorImm v => ⟨_, .logical .eor (.immediate v) rfl ⟨rfl, rfl⟩, fun _ => rfl⟩
  | .eorZp v => ⟨_, .logical .eor (.memory (.zeroPage v)) rfl rfl, fun _ => rfl⟩
  | .eorZpx v => ⟨_, .logical .eor (.memory (.zeroPageX v)) rfl rfl, fun _ => rfl⟩
  | .eorAbs v => ⟨_, .logical .eor (.memory (.absolute v)) rfl (absolute_join v), fun _ => rfl⟩
  | .eorAbx v => ⟨_, .logical .eor (.memory (.absoluteX v)) rfl (absoluteX_join v), fun _ => rfl⟩
  | .eorAby v => ⟨_, .logical .eor (.memory (.absoluteY v)) rfl (absoluteY_join v), fun _ => rfl⟩
  | .oraImm v => ⟨_, .logical .ior (.immediate v) rfl ⟨rfl, rfl⟩, fun _ => rfl⟩
  | .oraZp v => ⟨_, .logical .ior (.memory (.zeroPage v)) rfl rfl, fun _ => rfl⟩
  | .oraZpx v => ⟨_, .logical .ior (.memory (.zeroPageX v)) rfl rfl, fun _ => rfl⟩
  | .oraAbs v => ⟨_, .logical .ior (.memory (.absolute v)) rfl (absolute_join v), fun _ => rfl⟩
  | .oraAbx v => ⟨_, .logical .ior (.memory (.absoluteX v)) rfl (absoluteX_join v), fun _ => rfl⟩
  | .oraAby v => ⟨_, .logical .ior (.memory (.absoluteY v)) rfl (absoluteY_join v), fun _ => rfl⟩
  | .bitZp v => ⟨_, .bitTest (.zeroPage v) rfl rfl, fun _ => rfl⟩
  | .bitAbs v => ⟨_, .bitTest (.absolute v) rfl (absolute_join v), fun _ => rfl⟩
  | .incZp v => ⟨_, .incDecMemory .inc (.zeroPage v) rfl rfl, fun _ => rfl⟩
  | .incZpx v => ⟨_, .incDecMemory .inc (.zeroPageX v) rfl rfl, fun _ => rfl⟩
  | .incAbs v => ⟨_, .incDecMemory .inc (.absolute v) rfl (absolute_join v), fun _ => rfl⟩
  | .incAbx v => ⟨_, .incDecMemory .inc (.absoluteX v) rfl (absoluteX_join v), fun _ => rfl⟩
  | .decZp v => ⟨_, .incDecMemory .dec (.zeroPage v) rfl rfl, fun _ => rfl⟩
  | .decZpx v => ⟨_, .incDecMemory .dec (.zeroPageX v) rfl rfl, fun _ => rfl⟩
  | .decAbs v => ⟨_, .incDecMemory .dec (.absolute v) rfl (absolute_join v), fun _ => rfl⟩
  | .decAbx v => ⟨_, .incDecMemory .dec (.absoluteX v) rfl (absoluteX_join v), fun _ => rfl⟩
  | .inx => ⟨_, .incDecRegister .inc .x rfl rfl, fun _ => rfl⟩
  | .iny => ⟨_, .incDecRegister .inc .y rfl rfl, fun _ => rfl⟩
  | .dex => ⟨_, .incDecRegister .dec .x rfl rfl, fun _ => rfl⟩
  | .dey => ⟨_, .incDecRegister .dec .y rfl rfl, fun _ => rfl⟩
  | .aslAcc => ⟨_, .shiftAccumulator .asl rfl rfl, fun _ => rfl⟩
  | .aslZp v => ⟨_, .shiftMemory .asl (.zeroPage v) rfl rfl, fun _ => rfl⟩
  | .aslZpx v => ⟨_, .shiftMemory .asl (.zeroPageX v) rfl rfl, fun _ => rfl⟩
  | .aslAbs v => ⟨_, .shiftMemory .asl (.absolute v) rfl (absolute_join v), fun _ => rfl⟩
  | .aslAbx v => ⟨_, .shiftMemory .asl (.absoluteX v) rfl (absoluteX_join v), fun _ => rfl⟩
  | .lsrAcc => ⟨_, .shiftAccumulator .lsr rfl rfl, fun _ => rfl⟩
  | .lsrZp v => ⟨_, .shiftMemory .lsr (.zeroPage v) rfl rfl, fun _ => rfl⟩
  | .lsrZpx v => ⟨_, .shiftMemory .lsr (.zeroPageX v) rfl rfl, fun _ => rfl⟩
  | .lsrAbs v => ⟨_, .shiftMemory .lsr (.absolute v) rfl (absolute_join v), fun _ => rfl⟩
  | .lsrAbx v => ⟨_, .shiftMemory .lsr (.absoluteX v) rfl (absoluteX_join v), fun _ => rfl⟩
  | .rolAcc => ⟨_, .shiftAccumulator .rol rfl rfl, fun _ => rfl⟩
  | .rolZp v => ⟨_, .shiftMemory .rol (.zeroPage v) rfl rfl, fun _ => rfl⟩
  | .rolZpx v => ⟨_, .shiftMemory .rol (.zeroPageX v) rfl rfl, fun _ => rfl⟩
  | .rolAbs v => ⟨_, .shiftMemory .rol (.absolute v) rfl (absolute_join v), fun _ => rfl⟩
  | .rolAbx v => ⟨_, .shiftMemory .rol (.absoluteX v) rfl (absoluteX_join v), fun _ => rfl⟩
  | .rorAcc => ⟨_, .shiftAccumulator .ror rfl rfl, fun _ => rfl⟩
  | .rorZp v => ⟨_, .shiftMemory .ror (.zeroPage v) rfl rfl, fun _ => rfl⟩
  | .rorZpx v => ⟨_, .shiftMemory .ror (.zeroPageX v) rfl rfl, fun _ => rfl⟩
  | .rorAbs v => ⟨_, .shiftMemory .ror (.absolute v) rfl (absolute_join v), fun _ => rfl⟩
  | .rorAbx v => ⟨_, .shiftMemory .ror (.absoluteX v) rfl (absoluteX_join v), fun _ => rfl⟩
  | .clc => ⟨_, .clearFlag .c rfl rfl, fun _ => rfl⟩
  | .sec => ⟨_, .setFlag .c rfl rfl, fun _ => rfl⟩
  | .cli => ⟨_, .clearFlag .i rfl rfl, fun _ => rfl⟩
  | .sei => ⟨_, .setFlag .i rfl rfl, fun _ => rfl⟩
  | .clv => ⟨_, .clearFlag .v rfl rfl, fun _ => rfl⟩
  | .cld => ⟨_, .clearFlag .d rfl rfl, fun _ => rfl⟩
  | .sed => ⟨_, .setFlag .d rfl rfl, fun _ => rfl⟩
  | .bpl v => ⟨_, .branch .n false v rfl ⟨rfl, rfl⟩, fun _ => rfl⟩
  | .bmi v => ⟨_, .branch .n true v rfl ⟨rfl, rfl⟩, fun _ => rfl⟩
  | .bvc v => ⟨_, .branch .v false v rfl ⟨rfl, rfl⟩, fun _ => rfl⟩
  | .bvs v => ⟨_, .branch .v true v rfl ⟨rfl, rfl⟩, fun _ => rfl⟩
  | .bcc v => ⟨_, .branch .c false v rfl ⟨rfl, rfl⟩, fun _ => rfl⟩
  | .bcs v => ⟨_, .branch .c true v rfl ⟨rfl, rfl⟩, fun _ => rfl⟩
  | .bne v => ⟨_, .branch .z false v rfl ⟨rfl, rfl⟩, fun _ => rfl⟩
  | .beq v => ⟨_, .branch .z true v rfl ⟨rfl, rfl⟩, fun _ => rfl⟩
  | .nop => ⟨_, .nop rfl rfl, fun _ => rfl⟩

end Sys2Proof.Machine
end

