-- ==== Sys2Proof/Laws/PerInstr.lean ====
section
/-! SUPPORT. Laws stated of every instruction as syntax, one lemma for each constructor. -/

namespace Sys2Proof.Laws.EncodedLength

/-- The encoding of an instruction has the length that R82 gives the mode of its descriptor. -/
def Statement (i : Instr) : Prop := i.length = Mode.length i.descriptor.mode

theorem ldaImm (imm8 : Byte) : Statement (.ldaImm imm8) := rfl
theorem ldaZp (zp8 : Byte) : Statement (.ldaZp zp8) := rfl
theorem ldaZpx (zp8 : Byte) : Statement (.ldaZpx zp8) := rfl
theorem ldaAbs (addr16 : Addr) : Statement (.ldaAbs addr16) := rfl
theorem ldaAbx (addr16 : Addr) : Statement (.ldaAbx addr16) := rfl
theorem ldaAby (addr16 : Addr) : Statement (.ldaAby addr16) := rfl
theorem ldxImm (imm8 : Byte) : Statement (.ldxImm imm8) := rfl
theorem ldxZp (zp8 : Byte) : Statement (.ldxZp zp8) := rfl
theorem ldxZpy (zp8 : Byte) : Statement (.ldxZpy zp8) := rfl
theorem ldxAbs (addr16 : Addr) : Statement (.ldxAbs addr16) := rfl
theorem ldxAby (addr16 : Addr) : Statement (.ldxAby addr16) := rfl
theorem ldyImm (imm8 : Byte) : Statement (.ldyImm imm8) := rfl
theorem ldyZp (zp8 : Byte) : Statement (.ldyZp zp8) := rfl
theorem ldyZpx (zp8 : Byte) : Statement (.ldyZpx zp8) := rfl
theorem ldyAbs (addr16 : Addr) : Statement (.ldyAbs addr16) := rfl
theorem ldyAbx (addr16 : Addr) : Statement (.ldyAbx addr16) := rfl
theorem staZp (zp8 : Byte) : Statement (.staZp zp8) := rfl
theorem staZpx (zp8 : Byte) : Statement (.staZpx zp8) := rfl
theorem staAbs (addr16 : Addr) : Statement (.staAbs addr16) := rfl
theorem staAbx (addr16 : Addr) : Statement (.staAbx addr16) := rfl
theorem staAby (addr16 : Addr) : Statement (.staAby addr16) := rfl
theorem stxZp (zp8 : Byte) : Statement (.stxZp zp8) := rfl
theorem stxZpy (zp8 : Byte) : Statement (.stxZpy zp8) := rfl
theorem stxAbs (addr16 : Addr) : Statement (.stxAbs addr16) := rfl
theorem styZp (zp8 : Byte) : Statement (.styZp zp8) := rfl
theorem styZpx (zp8 : Byte) : Statement (.styZpx zp8) := rfl
theorem styAbs (addr16 : Addr) : Statement (.styAbs addr16) := rfl
theorem tax : Statement (.tax) := rfl
theorem tay : Statement (.tay) := rfl
theorem txa : Statement (.txa) := rfl
theorem tya : Statement (.tya) := rfl
theorem tsx : Statement (.tsx) := rfl
theorem txs : Statement (.txs) := rfl
theorem adcImm (imm8 : Byte) : Statement (.adcImm imm8) := rfl
theorem adcZp (zp8 : Byte) : Statement (.adcZp zp8) := rfl
theorem adcZpx (zp8 : Byte) : Statement (.adcZpx zp8) := rfl
theorem adcAbs (addr16 : Addr) : Statement (.adcAbs addr16) := rfl
theorem adcAbx (addr16 : Addr) : Statement (.adcAbx addr16) := rfl
theorem adcAby (addr16 : Addr) : Statement (.adcAby addr16) := rfl
theorem andImm (imm8 : Byte) : Statement (.andImm imm8) := rfl
theorem andZp (zp8 : Byte) : Statement (.andZp zp8) := rfl
theorem andZpx (zp8 : Byte) : Statement (.andZpx zp8) := rfl
theorem andAbs (addr16 : Addr) : Statement (.andAbs addr16) := rfl
theorem andAbx (addr16 : Addr) : Statement (.andAbx addr16) := rfl
theorem andAby (addr16 : Addr) : Statement (.andAby addr16) := rfl
theorem eorImm (imm8 : Byte) : Statement (.eorImm imm8) := rfl
theorem eorZp (zp8 : Byte) : Statement (.eorZp zp8) := rfl
theorem eorZpx (zp8 : Byte) : Statement (.eorZpx zp8) := rfl
theorem eorAbs (addr16 : Addr) : Statement (.eorAbs addr16) := rfl
theorem eorAbx (addr16 : Addr) : Statement (.eorAbx addr16) := rfl
theorem eorAby (addr16 : Addr) : Statement (.eorAby addr16) := rfl
theorem oraImm (imm8 : Byte) : Statement (.oraImm imm8) := rfl
theorem oraZp (zp8 : Byte) : Statement (.oraZp zp8) := rfl
theorem oraZpx (zp8 : Byte) : Statement (.oraZpx zp8) := rfl
theorem oraAbs (addr16 : Addr) : Statement (.oraAbs addr16) := rfl
theorem oraAbx (addr16 : Addr) : Statement (.oraAbx addr16) := rfl
theorem oraAby (addr16 : Addr) : Statement (.oraAby addr16) := rfl
theorem bitZp (zp8 : Byte) : Statement (.bitZp zp8) := rfl
theorem bitAbs (addr16 : Addr) : Statement (.bitAbs addr16) := rfl
theorem incZp (zp8 : Byte) : Statement (.incZp zp8) := rfl
theorem incZpx (zp8 : Byte) : Statement (.incZpx zp8) := rfl
theorem incAbs (addr16 : Addr) : Statement (.incAbs addr16) := rfl
theorem incAbx (addr16 : Addr) : Statement (.incAbx addr16) := rfl
theorem decZp (zp8 : Byte) : Statement (.decZp zp8) := rfl
theorem decZpx (zp8 : Byte) : Statement (.decZpx zp8) := rfl
theorem decAbs (addr16 : Addr) : Statement (.decAbs addr16) := rfl
theorem decAbx (addr16 : Addr) : Statement (.decAbx addr16) := rfl
theorem inx : Statement (.inx) := rfl
theorem iny : Statement (.iny) := rfl
theorem dex : Statement (.dex) := rfl
theorem dey : Statement (.dey) := rfl
theorem aslAcc : Statement (.aslAcc) := rfl
theorem aslZp (zp8 : Byte) : Statement (.aslZp zp8) := rfl
theorem aslZpx (zp8 : Byte) : Statement (.aslZpx zp8) := rfl
theorem aslAbs (addr16 : Addr) : Statement (.aslAbs addr16) := rfl
theorem aslAbx (addr16 : Addr) : Statement (.aslAbx addr16) := rfl
theorem lsrAcc : Statement (.lsrAcc) := rfl
theorem lsrZp (zp8 : Byte) : Statement (.lsrZp zp8) := rfl
theorem lsrZpx (zp8 : Byte) : Statement (.lsrZpx zp8) := rfl
theorem lsrAbs (addr16 : Addr) : Statement (.lsrAbs addr16) := rfl
theorem lsrAbx (addr16 : Addr) : Statement (.lsrAbx addr16) := rfl
theorem rolAcc : Statement (.rolAcc) := rfl
theorem rolZp (zp8 : Byte) : Statement (.rolZp zp8) := rfl
theorem rolZpx (zp8 : Byte) : Statement (.rolZpx zp8) := rfl
theorem rolAbs (addr16 : Addr) : Statement (.rolAbs addr16) := rfl
theorem rolAbx (addr16 : Addr) : Statement (.rolAbx addr16) := rfl
theorem rorAcc : Statement (.rorAcc) := rfl
theorem rorZp (zp8 : Byte) : Statement (.rorZp zp8) := rfl
theorem rorZpx (zp8 : Byte) : Statement (.rorZpx zp8) := rfl
theorem rorAbs (addr16 : Addr) : Statement (.rorAbs addr16) := rfl
theorem rorAbx (addr16 : Addr) : Statement (.rorAbx addr16) := rfl
theorem clc : Statement (.clc) := rfl
theorem sec : Statement (.sec) := rfl
theorem cli : Statement (.cli) := rfl
theorem sei : Statement (.sei) := rfl
theorem clv : Statement (.clv) := rfl
theorem cld : Statement (.cld) := rfl
theorem sed : Statement (.sed) := rfl
theorem bpl (rel8 : Byte) : Statement (.bpl rel8) := rfl
theorem bmi (rel8 : Byte) : Statement (.bmi rel8) := rfl
theorem bvc (rel8 : Byte) : Statement (.bvc rel8) := rfl
theorem bvs (rel8 : Byte) : Statement (.bvs rel8) := rfl
theorem bcc (rel8 : Byte) : Statement (.bcc rel8) := rfl
theorem bcs (rel8 : Byte) : Statement (.bcs rel8) := rfl
theorem bne (rel8 : Byte) : Statement (.bne rel8) := rfl
theorem beq (rel8 : Byte) : Statement (.beq rel8) := rfl
theorem nop : Statement (.nop) := rfl

/-- The lemmas together: the family's statement holds of every instruction. -/
theorem holds (i : Instr) : Statement i := by cases i <;> rfl

end Sys2Proof.Laws.EncodedLength
end

