-- ==== Sys2Proof/Laws/Run.lean ====
section
/-! SUPPORT. Runs of many steps: the loop of `execute` (R231) and `Host.Core.run`, one step at a time. -/

namespace Sys2Proof.Machine

/-- With the latch clear a step answers a next state: the instruction or the one exception. -/
theorem step_next (s : State) (h : s.fault = none) : ∃ t, step s = .next t := by
  obtain ⟨e, he, _⟩ | ⟨_, _, hs⟩ | ⟨i, _, _, hs⟩ := step_cases s
  · rw [h] at he; cases he
  · exact ⟨_, hs⟩
  · obtain ⟨f, _, hf⟩ := exec_shape i
    exact ⟨_, hs.trans (hf s)⟩

/-- The loop runs a step while budget is left. -/
theorem runLoop_step (fuel : Nat) (s t : State) (h : 0 < s.cyc) (hs : step s = .next t) :
    runLoop (fuel + 1) s = runLoop fuel t := by
  simp [runLoop, h, hs]

/-- The loop ends when the budget is used up. -/
theorem runLoop_done (fuel : Nat) (s : State) (h : s.cyc ≤ 0) : runLoop fuel s = s := by
  cases fuel with
  | zero => rfl
  | succ n => simp [runLoop, show ¬0 < s.cyc by omega]

/-- Of k + 1 steps the first one is a step. -/
theorem run_succ (M : Host.Core) (k : Nat) (s t : M.State) (h : M.step s = .next t) :
    Host.Core.run M (k + 1) s = Host.Core.run M k t := by
  simp [Host.Core.run, h]

end Sys2Proof.Machine
end

