-- ==== Sys2Proof/Laws/Trace.lean ====
section
/-! SUPPORT. The access list of a step (R55, R56) in each case of a step, and which fetches it has. -/

namespace Sys2Proof.Machine

theorem stepAccesses_latched (s : State) (e : UnknownOpcode) (h : s.fault = some e) :
    stepAccesses s = [] := by
  simp [stepAccesses, h]

theorem stepAccesses_noEntry (s : State) (h : s.fault = none) (hi : s.fetchInstr = none) :
    stepAccesses s = fetches s.pc 1 := by
  simp [stepAccesses, h, hi, fetches]

theorem stepAccesses_instr (s : State) (i : Instr) (h : s.fault = none)
    (hi : s.fetchInstr = some i) : stepAccesses s = instrAccesses i s := by
  simp [stepAccesses, h, hi]

/-- The fetched addresses are the `n` consecutive ones from the first, modulo 65536. -/
theorem fetch_mem_fetches (a p : Addr) (n : Nat) :
    Access.fetch p ∈ fetches a n ↔ ∃ k, k < n ∧ p.toNat = (a.toNat + k) % 65536 := by
  induction n generalizing a with
  | zero => simp [fetches]
  | succ n ih =>
    have one : (a + 1).toNat = (a.toNat + 1) % 65536 := by simp [BitVec.toNat_add]
    simp only [fetches, List.mem_cons, Access.fetch.injEq, ih, one]
    constructor
    · rintro (rfl | ⟨k, hk, hp⟩)
      · exact ⟨0, by omega, (Nat.mod_eq_of_lt p.isLt).symm⟩
      · exact ⟨k + 1, by omega, by omega⟩
    · rintro ⟨k, hk, hp⟩
      cases k with
      | zero => exact .inl (BitVec.eq_of_toNat_eq (hp.trans (Nat.mod_eq_of_lt a.isLt)))
      | succ k => exact .inr ⟨k, by omega, by omega⟩

/-- A fetch list holds no data access. -/
theorem read_not_mem_fetches (a p : Addr) (n : Nat) : Access.read p ∉ fetches a n := by
  induction n generalizing a with
  | zero => simp [fetches]
  | succ n ih => simp [fetches, ih]

@[inherit_doc read_not_mem_fetches]
theorem write_not_mem_fetches (a p : Addr) (n : Nat) : Access.write p ∉ fetches a n := by
  induction n generalizing a with
  | zero => simp [fetches]
  | succ n ih => simp [fetches, ih]

end Sys2Proof.Machine
end

