-- ==== Sys2Proof/Tests/Slice0.lean ====
section
/-! SUPPORT. The model's own tests. Every expected result is taken from the spec: the opcode table (R85),
the worked examples and vectors of 95_test_vectors.md, or the rule named. After them, one witness for
the hypotheses of each statement that has some. -/

namespace Sys2Proof.Tests

open Sys2Proof.Machine Sys2Proof.Statements

/-- The base state of a vector (conventions of 95_test_vectors.md): reset, the changes of `start`, pc at
`loc` and the bytes there. -/
def baseState (loc : Addr) (code : List Byte) (start : State → State) : State :=
  (start { State.reset with pc := loc }).storeBytes loc code

/-- One step from the base state answers exactly the changed base state: what a vector does not list
is unchanged. -/
def stepsTo (loc : Addr) (code : List Byte) (start change : State → State) : Bool :=
  let s := baseState loc code start
  match step s with
  | .next t => decide (t = change s)
  | .fault _ => false
  | .refused _ => false

/-! ### Well-formedness: one ill-formed term for each check of `Kind.allowedModes` -/

/-- LOAD and STORE: a mode that the kind does not have, and SP, which no load or store names (R24). -/
theorem test_ill_formed_load_store :
    Descriptor.wellFormed ⟨.load .a, .zeroPageY⟩ = false ∧
    Descriptor.wellFormed ⟨.load .x, .zeroPageX⟩ = false ∧
    Descriptor.wellFormed ⟨.load .y, .absoluteY⟩ = false ∧
    Descriptor.wellFormed ⟨.load .sp, .immediate⟩ = false ∧
    Descriptor.wellFormed ⟨.store .a, .immediate⟩ = false ∧
    Descriptor.wellFormed ⟨.store .x, .absoluteY⟩ = false ∧
    Descriptor.wellFormed ⟨.store .y, .zeroPageY⟩ = false ∧
    Descriptor.wellFormed ⟨.store .sp, .absolute⟩ = false := by decide

/-- TRANSFER: a pair outside the six, and a mode that is not IMPLIED (R139). -/
theorem test_ill_formed_transfer :
    Descriptor.wellFormed ⟨.transfer .x .y, .implied⟩ = false ∧
    Descriptor.wellFormed ⟨.transfer .a .sp, .implied⟩ = false ∧
    Descriptor.wellFormed ⟨.transfer .a .x, .accumulator⟩ = false := by decide

/-- ADC, LOGICAL and BIT_TEST: modes the table does not give them (R160, R159, R164). -/
theorem test_ill_formed_arithmetic :
    Descriptor.wellFormed ⟨.adc, .zeroPageY⟩ = false ∧
    Descriptor.wellFormed ⟨.logical .and, .accumulator⟩ = false ∧
    Descriptor.wellFormed ⟨.logical .eor, .relative⟩ = false ∧
    Descriptor.wellFormed ⟨.logical .ior, .implied⟩ = false ∧
    Descriptor.wellFormed ⟨.bitTest, .immediate⟩ = false := by decide

/-- INC/DEC and SHIFT/ROTATE: modes and registers the table does not give them (R178, R179). -/
theorem test_ill_formed_modify :
    Descriptor.wellFormed ⟨.incDec .inc .memory, .absoluteY⟩ = false ∧
    Descriptor.wellFormed ⟨.incDec .dec (.register .a), .implied⟩ = false ∧
    Descriptor.wellFormed ⟨.incDec .inc (.register .x), .zeroPage⟩ = false ∧
    Descriptor.wellFormed ⟨.shift .ror, .absoluteY⟩ = false := by decide

/-- SET_FLAG, CLEAR_FLAG, BRANCH and NOP (R199, R207, R216). -/
theorem test_ill_formed_control :
    Descriptor.wellFormed ⟨.setFlag .v, .implied⟩ = false ∧
    Descriptor.wellFormed ⟨.setFlag .c, .relative⟩ = false ∧
    Descriptor.wellFormed ⟨.clearFlag .z, .implied⟩ = false ∧
    Descriptor.wellFormed ⟨.branch .i true, .relative⟩ = false ∧
    Descriptor.wellFormed ⟨.branch .c true, .absolute⟩ = false ∧
    Descriptor.wellFormed ⟨.nop, .immediate⟩ = false := by decide

/-- The largest number that each exact operand width leaves room for is well formed (R81, R83). -/
theorem test_well_formed : Instr.wellFormed (.ldaImm 0xFF) = true ∧
    Instr.wellFormed (.staAby 0xFFFF) = true ∧ Instr.wellFormed (.bne 0x80) = true := by decide

/-! ### Decoding: every row of R85, its bytes written out, the low address byte first (R53) -/

theorem test_decode_load :
    decode [0xA9, 0x9B, 0x77] = .instr (.ldaImm 0x9B) [0x77] ∧
    decode [0xA5, 0x9B, 0x77] = .instr (.ldaZp 0x9B) [0x77] ∧
    decode [0xB5, 0x9B, 0x77] = .instr (.ldaZpx 0x9B) [0x77] ∧
    decode [0xAD, 0x5A, 0xC3, 0x77] = .instr (.ldaAbs 0xC35A) [0x77] ∧
    decode [0xBD, 0x5A, 0xC3, 0x77] = .instr (.ldaAbx 0xC35A) [0x77] ∧
    decode [0xB9, 0x5A, 0xC3, 0x77] = .instr (.ldaAby 0xC35A) [0x77] ∧
    decode [0xA2, 0x9B, 0x77] = .instr (.ldxImm 0x9B) [0x77] ∧
    decode [0xA6, 0x9B, 0x77] = .instr (.ldxZp 0x9B) [0x77] ∧
    decode [0xB6, 0x9B, 0x77] = .instr (.ldxZpy 0x9B) [0x77] ∧
    decode [0xAE, 0x5A, 0xC3, 0x77] = .instr (.ldxAbs 0xC35A) [0x77] ∧
    decode [0xBE, 0x5A, 0xC3, 0x77] = .instr (.ldxAby 0xC35A) [0x77] ∧
    decode [0xA0, 0x9B, 0x77] = .instr (.ldyImm 0x9B) [0x77] ∧
    decode [0xA4, 0x9B, 0x77] = .instr (.ldyZp 0x9B) [0x77] ∧
    decode [0xB4, 0x9B, 0x77] = .instr (.ldyZpx 0x9B) [0x77] ∧
    decode [0xAC, 0x5A, 0xC3, 0x77] = .instr (.ldyAbs 0xC35A) [0x77] ∧
    decode [0xBC, 0x5A, 0xC3, 0x77] = .instr (.ldyAbx 0xC35A) [0x77] := by decide

theorem test_decode_store :
    decode [0x85, 0x9B, 0x77] = .instr (.staZp 0x9B) [0x77] ∧
    decode [0x95, 0x9B, 0x77] = .instr (.staZpx 0x9B) [0x77] ∧
    decode [0x8D, 0x5A, 0xC3, 0x77] = .instr (.staAbs 0xC35A) [0x77] ∧
    decode [0x9D, 0x5A, 0xC3, 0x77] = .instr (.staAbx 0xC35A) [0x77] ∧
    decode [0x99, 0x5A, 0xC3, 0x77] = .instr (.staAby 0xC35A) [0x77] ∧
    decode [0x86, 0x9B, 0x77] = .instr (.stxZp 0x9B) [0x77] ∧
    decode [0x96, 0x9B, 0x77] = .instr (.stxZpy 0x9B) [0x77] ∧
    decode [0x8E, 0x5A, 0xC3, 0x77] = .instr (.stxAbs 0xC35A) [0x77] ∧
    decode [0x84, 0x9B, 0x77] = .instr (.styZp 0x9B) [0x77] ∧
    decode [0x94, 0x9B, 0x77] = .instr (.styZpx 0x9B) [0x77] ∧
    decode [0x8C, 0x5A, 0xC3, 0x77] = .instr (.styAbs 0xC35A) [0x77] := by decide

theorem test_decode_transfer :
    decode [0xAA, 0x77] = .instr .tax [0x77] ∧
    decode [0xA8, 0x77] = .instr .tay [0x77] ∧
    decode [0x8A, 0x77] = .instr .txa [0x77] ∧
    decode [0x98, 0x77] = .instr .tya [0x77] ∧
    decode [0xBA, 0x77] = .instr .tsx [0x77] ∧
    decode [0x9A, 0x77] = .instr .txs [0x77] := by decide

theorem test_decode_adc :
    decode [0x69, 0x9B, 0x77] = .instr (.adcImm 0x9B) [0x77] ∧
    decode [0x65, 0x9B, 0x77] = .instr (.adcZp 0x9B) [0x77] ∧
    decode [0x75, 0x9B, 0x77] = .instr (.adcZpx 0x9B) [0x77] ∧
    decode [0x6D, 0x5A, 0xC3, 0x77] = .instr (.adcAbs 0xC35A) [0x77] ∧
    decode [0x7D, 0x5A, 0xC3, 0x77] = .instr (.adcAbx 0xC35A) [0x77] ∧
    decode [0x79, 0x5A, 0xC3, 0x77] = .instr (.adcAby 0xC35A) [0x77] := by decide

theorem test_decode_logical :
    decode [0x29, 0x9B, 0x77] = .instr (.andImm 0x9B) [0x77] ∧
    decode [0x25, 0x9B, 0x77] = .instr (.andZp 0x9B) [0x77] ∧
    decode [0x35, 0x9B, 0x77] = .instr (.andZpx 0x9B) [0x77] ∧
    decode [0x2D, 0x5A, 0xC3, 0x77] = .instr (.andAbs 0xC35A) [0x77] ∧
    decode [0x3D, 0x5A, 0xC3, 0x77] = .instr (.andAbx 0xC35A) [0x77] ∧
    decode [0x39, 0x5A, 0xC3, 0x77] = .instr (.andAby 0xC35A) [0x77] ∧
    decode [0x49, 0x9B, 0x77] = .instr (.eorImm 0x9B) [0x77] ∧
    decode [0x45, 0x9B, 0x77] = .instr (.eorZp 0x9B) [0x77] ∧
    decode [0x55, 0x9B, 0x77] = .instr (.eorZpx 0x9B) [0x77] ∧
    decode [0x4D, 0x5A, 0xC3, 0x77] = .instr (.eorAbs 0xC35A) [0x77] ∧
    decode [0x5D, 0x5A, 0xC3, 0x77] = .instr (.eorAbx 0xC35A) [0x77] ∧
    decode [0x59, 0x5A, 0xC3, 0x77] = .instr (.eorAby 0xC35A) [0x77] ∧
    decode [0x09, 0x9B, 0x77] = .instr (.oraImm 0x9B) [0x77] ∧
    decode [0x05, 0x9B, 0x77] = .instr (.oraZp 0x9B) [0x77] ∧
    decode [0x15, 0x9B, 0x77] = .instr (.oraZpx 0x9B) [0x77] ∧
    decode [0x0D, 0x5A, 0xC3, 0x77] = .instr (.oraAbs 0xC35A) [0x77] ∧
    decode [0x1D, 0x5A, 0xC3, 0x77] = .instr (.oraAbx 0xC35A) [0x77] ∧
    decode [0x19, 0x5A, 0xC3, 0x77] = .instr (.oraAby 0xC35A) [0x77] := by decide

theorem test_decode_bit_test :
    decode [0x24, 0x9B, 0x77] = .instr (.bitZp 0x9B) [0x77] ∧
    decode [0x2C, 0x5A, 0xC3, 0x77] = .instr (.bitAbs 0xC35A) [0x77] := by decide

theorem test_decode_inc_dec :
    decode [0xE6, 0x9B, 0x77] = .instr (.incZp 0x9B) [0x77] ∧
    decode [0xF6, 0x9B, 0x77] = .instr (.incZpx 0x9B) [0x77] ∧
    decode [0xEE, 0x5A, 0xC3, 0x77] = .instr (.incAbs 0xC35A) [0x77] ∧
    decode [0xFE, 0x5A, 0xC3, 0x77] = .instr (.incAbx 0xC35A) [0x77] ∧
    decode [0xC6, 0x9B, 0x77] = .instr (.decZp 0x9B) [0x77] ∧
    decode [0xD6, 0x9B, 0x77] = .instr (.decZpx 0x9B) [0x77] ∧
    decode [0xCE, 0x5A, 0xC3, 0x77] = .instr (.decAbs 0xC35A) [0x77] ∧
    decode [0xDE, 0x5A, 0xC3, 0x77] = .instr (.decAbx 0xC35A) [0x77] ∧
    decode [0xE8, 0x77] = .instr .inx [0x77] ∧
    decode [0xC8, 0x77] = .instr .iny [0x77] ∧
    decode [0xCA, 0x77] = .instr .dex [0x77] ∧
    decode [0x88, 0x77] = .instr .dey [0x77] := by decide

theorem test_decode_shift :
    decode [0x0A, 0x77] = .instr .aslAcc [0x77] ∧
    decode [0x06, 0x9B, 0x77] = .instr (.aslZp 0x9B) [0x77] ∧
    decode [0x16, 0x9B, 0x77] = .instr (.aslZpx 0x9B) [0x77] ∧
    decode [0x0E, 0x5A, 0xC3, 0x77] = .instr (.aslAbs 0xC35A) [0x77] ∧
    decode [0x1E, 0x5A, 0xC3, 0x77] = .instr (.aslAbx 0xC35A) [0x77] ∧
    decode [0x4A, 0x77] = .instr .lsrAcc [0x77] ∧
    decode [0x46, 0x9B, 0x77] = .instr (.lsrZp 0x9B) [0x77] ∧
    decode [0x56, 0x9B, 0x77] = .instr (.lsrZpx 0x9B) [0x77] ∧
    decode [0x4E, 0x5A, 0xC3, 0x77] = .instr (.lsrAbs 0xC35A) [0x77] ∧
    decode [0x5E, 0x5A, 0xC3, 0x77] = .instr (.lsrAbx 0xC35A) [0x77] ∧
    decode [0x2A, 0x77] = .instr .rolAcc [0x77] ∧
    decode [0x26, 0x9B, 0x77] = .instr (.rolZp 0x9B) [0x77] ∧
    decode [0x36, 0x9B, 0x77] = .instr (.rolZpx 0x9B) [0x77] ∧
    decode [0x2E, 0x5A, 0xC3, 0x77] = .instr (.rolAbs 0xC35A) [0x77] ∧
    decode [0x3E, 0x5A, 0xC3, 0x77] = .instr (.rolAbx 0xC35A) [0x77] ∧
    decode [0x6A, 0x77] = .instr .rorAcc [0x77] ∧
    decode [0x66, 0x9B, 0x77] = .instr (.rorZp 0x9B) [0x77] ∧
    decode [0x76, 0x9B, 0x77] = .instr (.rorZpx 0x9B) [0x77] ∧
    decode [0x6E, 0x5A, 0xC3, 0x77] = .instr (.rorAbs 0xC35A) [0x77] ∧
    decode [0x7E, 0x5A, 0xC3, 0x77] = .instr (.rorAbx 0xC35A) [0x77] := by decide

theorem test_decode_flags :
    decode [0x18, 0x77] = .instr .clc [0x77] ∧
    decode [0x38, 0x77] = .instr .sec [0x77] ∧
    decode [0x58, 0x77] = .instr .cli [0x77] ∧
    decode [0x78, 0x77] = .instr .sei [0x77] ∧
    decode [0xB8, 0x77] = .instr .clv [0x77] ∧
    decode [0xD8, 0x77] = .instr .cld [0x77] ∧
    decode [0xF8, 0x77] = .instr .sed [0x77] := by decide

theorem test_decode_branch :
    decode [0x10, 0x9B, 0x77] = .instr (.bpl 0x9B) [0x77] ∧
    decode [0x30, 0x9B, 0x77] = .instr (.bmi 0x9B) [0x77] ∧
    decode [0x50, 0x9B, 0x77] = .instr (.bvc 0x9B) [0x77] ∧
    decode [0x70, 0x9B, 0x77] = .instr (.bvs 0x9B) [0x77] ∧
    decode [0x90, 0x9B, 0x77] = .instr (.bcc 0x9B) [0x77] ∧
    decode [0xB0, 0x9B, 0x77] = .instr (.bcs 0x9B) [0x77] ∧
    decode [0xD0, 0x9B, 0x77] = .instr (.bne 0x9B) [0x77] ∧
    decode [0xF0, 0x9B, 0x77] = .instr (.beq 0x9B) [0x77] := by decide

theorem test_decode_nop :
    decode [0xEA, 0x77] = .instr .nop [0x77] := by decide

/-! ### One step: the derived vectors of 95_test_vectors.md, section 2 -/

/-- V1, V2, V3, V4, V5, V6, V7, V8, V13 of 95_test_vectors.md. -/
theorem test_step_lda :
    stepsTo 0x0600 [0xA9, 0x00]
      (fun s => { s with a := 0x55, n := true })
      (fun s => { s with
        a := 0x00, x := 0x00, y := 0x00, pc := 0x0602, c := false, z := true, v := false, n := false, cyc := -2 }) ∧
    stepsTo 0x0600 [0xA9, 0x80]
      (fun s => s)
      (fun s => { s with
        a := 0x80, x := 0x00, y := 0x00, pc := 0x0602, c := false, z := false, v := false, n := true, cyc := -2 }) ∧
    stepsTo 0x0600 [0xA5, 0x10]
      (fun s => s.memWrite 0x0010 0x7F)
      (fun s => { s with
        a := 0x7F, x := 0x00, y := 0x00, pc := 0x0602, c := false, z := false, v := false, n := false, cyc := -3 }) ∧
    stepsTo 0x0600 [0xB5, 0xF0]
      (fun s => { (s.memWrite 0x0010 0xAB).memWrite 0x0110 0xCD with x := 0x20 })
      (fun s => { s with
        a := 0xAB, x := 0x20, y := 0x00, pc := 0x0602, c := false, z := false, v := false, n := true, cyc := -4 }) ∧
    stepsTo 0x0600 [0xAD, 0x34, 0x12]
      (fun s => (s.memWrite 0x1234 0x42).memWrite 0x3412 0x99)
      (fun s => { s with
        a := 0x42, x := 0x00, y := 0x00, pc := 0x0603, c := false, z := false, v := false, n := false, cyc := -4 }) ∧
    stepsTo 0x0600 [0xBD, 0xFF, 0x01]
      (fun s => { s.memWrite 0x0200 0x5A with x := 0x01 })
      (fun s => { s with
        a := 0x5A, x := 0x01, y := 0x00, pc := 0x0603, c := false, z := false, v := false, n := false, cyc := -5 }) ∧
    stepsTo 0x0600 [0xBD, 0x00, 0x02]
      (fun s => { s.memWrite 0x02FF 0x00 with x := 0xFF })
      (fun s => { s with
        a := 0x00, x := 0xFF, y := 0x00, pc := 0x0603, c := false, z := true, v := false, n := false, cyc := -4 }) ∧
    stepsTo 0x0600 [0xB9, 0xFF, 0xFF]
      (fun s => { s.memWrite 0x0000 0x77 with y := 0x01 })
      (fun s => { s with
        a := 0x77, x := 0x00, y := 0x01, pc := 0x0603, c := false, z := false, v := false, n := false, cyc := -5 }) ∧
    stepsTo 0xFFFF [0xA9, 0xEA]
      (fun s => s)
      (fun s => { s with
        a := 0xEA, x := 0x00, y := 0x00, pc := 0x0001, c := false, z := false, v := false, n := true, cyc := -2 }) := by decide

/-- V9, V10 of 95_test_vectors.md. -/
theorem test_step_ldx :
    stepsTo 0x0600 [0xB6, 0xF0]
      (fun s => { s.memWrite 0x00FF 0x81 with y := 0x0F })
      (fun s => { s with
        a := 0x00, x := 0x81, y := 0x0F, pc := 0x0602, c := false, z := false, v := false, n := true, cyc := -4 }) ∧
    stepsTo 0x0600 [0xBE, 0xF0, 0x12]
      (fun s => { s.memWrite 0x1300 0x01 with y := 0x10 })
      (fun s => { s with
        a := 0x00, x := 0x01, y := 0x10, pc := 0x0603, c := false, z := false, v := false, n := false, cyc := -5 }) := by decide

/-- V11, V12 of 95_test_vectors.md. -/
theorem test_step_ldy :
    stepsTo 0x0600 [0xA0, 0xFF]
      (fun s => s)
      (fun s => { s with
        a := 0x00, x := 0x00, y := 0xFF, pc := 0x0602, c := false, z := false, v := false, n := true, cyc := -2 }) ∧
    stepsTo 0x0600 [0xBC, 0x00, 0x03]
      (fun s => { s.memWrite 0x0305 0x00 with x := 0x05 })
      (fun s => { s with
        a := 0x00, x := 0x05, y := 0x00, pc := 0x0603, c := false, z := true, v := false, n := false, cyc := -4 }) := by decide

/-- V20, V21, V22, V23, V24 of 95_test_vectors.md. -/
theorem test_step_sta :
    stepsTo 0x0600 [0x85, 0x01]
      (fun s => { s with a := 0x80 })
      (fun s => { s.memWrite 0x0001 0x80 with
        a := 0x80, x := 0x00, y := 0x00, pc := 0x0602, c := false, z := false, v := false, n := false, cyc := -3 }) ∧
    stepsTo 0x0600 [0x95, 0xF0]
      (fun s => { s with a := 0x12, x := 0x20 })
      (fun s => { s.memWrite 0x0010 0x12 with
        a := 0x12, x := 0x20, y := 0x00, pc := 0x0602, c := false, z := false, v := false, n := false, cyc := -4 }) ∧
    stepsTo 0x0600 [0x8D, 0x00, 0x03]
      (fun s => { s.memWrite 0x0300 0xEE with a := 0x00, z := false, n := true })
      (fun s => { s.memWrite 0x0300 0x00 with
        a := 0x00, x := 0x00, y := 0x00, pc := 0x0603, c := false, z := false, v := false, n := true, cyc := -4 }) ∧
    stepsTo 0x0600 [0x9D, 0xFF, 0x01]
      (fun s => { s with a := 0x99, x := 0x01 })
      (fun s => { s.memWrite 0x0200 0x99 with
        a := 0x99, x := 0x01, y := 0x00, pc := 0x0603, c := false, z := false, v := false, n := false, cyc := -5 }) ∧
    stepsTo 0x0600 [0x99, 0x00, 0x02]
      (fun s => { s with a := 0x99, y := 0x10 })
      (fun s => { s.memWrite 0x0210 0x99 with
        a := 0x99, x := 0x00, y := 0x10, pc := 0x0603, c := false, z := false, v := false, n := false, cyc := -4 }) := by decide

/-- V25, V26 of 95_test_vectors.md. -/
theorem test_step_stx :
    stepsTo 0x0600 [0x96, 0x20]
      (fun s => { s with x := 0x7E, y := 0xE5 })
      (fun s => { s.memWrite 0x0005 0x7E with
        a := 0x00, x := 0x7E, y := 0xE5, pc := 0x0602, c := false, z := false, v := false, n := false, cyc := -4 }) ∧
    stepsTo 0x0600 [0x8E, 0x00, 0x04]
      (fun s => { s with x := 0xFF })
      (fun s => { s.memWrite 0x0400 0xFF with
        a := 0x00, x := 0xFF, y := 0x00, pc := 0x0603, c := false, z := false, v := false, n := false, cyc := -4 }) := by decide

/-- V27, V28 of 95_test_vectors.md. -/
theorem test_step_sty :
    stepsTo 0x0600 [0x94, 0x20]
      (fun s => { s with y := 0x33, x := 0x01 })
      (fun s => { s.memWrite 0x0021 0x33 with
        a := 0x00, x := 0x01, y := 0x33, pc := 0x0602, c := false, z := false, v := false, n := false, cyc := -4 }) ∧
    stepsTo 0x0600 [0x8C, 0x34, 0x12]
      (fun s => { s with y := 0x5A })
      (fun s => { s.memWrite 0x1234 0x5A with
        a := 0x00, x := 0x00, y := 0x5A, pc := 0x0603, c := false, z := false, v := false, n := false, cyc := -4 }) := by decide

/-- V30 of 95_test_vectors.md. -/
theorem test_step_tax :
    stepsTo 0x0600 [0xAA]
      (fun s => { s with a := 0x80, x := 0x11 })
      (fun s => { s with
        a := 0x80, x := 0x80, y := 0x00, pc := 0x0601, c := false, z := false, v := false, n := true, cyc := -2 }) := by decide

/-- V31 of 95_test_vectors.md. -/
theorem test_step_tay :
    stepsTo 0x0600 [0xA8]
      (fun s => { s with a := 0x00, y := 0x55 })
      (fun s => { s with
        a := 0x00, x := 0x00, y := 0x00, pc := 0x0601, c := false, z := true, v := false, n := false, cyc := -2 }) := by decide

/-- V32 of 95_test_vectors.md. -/
theorem test_step_txa :
    stepsTo 0x0600 [0x8A]
      (fun s => { s with x := 0x7F, n := true })
      (fun s => { s with
        a := 0x7F, x := 0x7F, y := 0x00, pc := 0x0601, c := false, z := false, v := false, n := false, cyc := -2 }) := by decide

/-- V33 of 95_test_vectors.md. -/
theorem test_step_tya :
    stepsTo 0x0600 [0x98]
      (fun s => { s with y := 0xFF, a := 0x01 })
      (fun s => { s with
        a := 0xFF, x := 0x00, y := 0xFF, pc := 0x0601, c := false, z := false, v := false, n := true, cyc := -2 }) := by decide

/-- V34 of 95_test_vectors.md. -/
theorem test_step_tsx :
    stepsTo 0x0600 [0xBA]
      (fun s => { s with sp := 0xFD })
      (fun s => { s with
        a := 0x00, x := 0xFD, y := 0x00, sp := 0xFD, pc := 0x0601, c := false, z := false, v := false, n := true, cyc := -2 }) := by decide

/-- V35, V36 of 95_test_vectors.md. -/
theorem test_step_txs :
    stepsTo 0x0600 [0x9A]
      (fun s => { s with x := 0xFF, sp := 0x00, z := true })
      (fun s => { s with
        a := 0x00, x := 0xFF, y := 0x00, sp := 0xFF, pc := 0x0601, c := false, z := false, v := false, n := true, cyc := -2 }) ∧
    stepsTo 0x0600 [0x9A]
      (fun s => { s with x := 0x00, sp := 0xFD, n := true })
      (fun s => { s with
        a := 0x00, x := 0x00, y := 0x00, sp := 0x00, pc := 0x0601, c := false, z := true, v := false, n := false, cyc := -2 }) := by decide

/-- V40, V41, V42, V43, V44, V45, V46, V47, V48, V49, V50 of 95_test_vectors.md. -/
theorem test_step_adc :
    stepsTo 0x0600 [0x69, 0x50]
      (fun s => { s with a := 0x50 })
      (fun s => { s with
        a := 0xA0, x := 0x00, y := 0x00, pc := 0x0602, c := false, z := false, v := true, n := true, cyc := -2 }) ∧
    stepsTo 0x0600 [0x69, 0x90]
      (fun s => { s with a := 0xD0 })
      (fun s => { s with
        a := 0x60, x := 0x00, y := 0x00, pc := 0x0602, c := true, z := false, v := true, n := false, cyc := -2 }) ∧
    stepsTo 0x0600 [0x69, 0x01]
      (fun s => { s with a := 0xFF })
      (fun s => { s with
        a := 0x00, x := 0x00, y := 0x00, pc := 0x0602, c := true, z := true, v := false, n := false, cyc := -2 }) ∧
    stepsTo 0x0600 [0x69, 0x00]
      (fun s => { s with a := 0x7F, c := true })
      (fun s => { s with
        a := 0x80, x := 0x00, y := 0x00, pc := 0x0602, c := false, z := false, v := true, n := true, cyc := -2 }) ∧
    stepsTo 0x0600 [0x69, 0xFF]
      (fun s => { s with a := 0xFF, c := true })
      (fun s => { s with
        a := 0xFF, x := 0x00, y := 0x00, pc := 0x0602, c := true, z := false, v := false, n := true, cyc := -2 }) ∧
    stepsTo 0x0600 [0x69, 0x80]
      (fun s => { s with a := 0x80 })
      (fun s => { s with
        a := 0x00, x := 0x00, y := 0x00, pc := 0x0602, c := true, z := true, v := true, n := false, cyc := -2 }) ∧
    stepsTo 0x0600 [0x69, 0xF0]
      (fun s => { s with a := 0x50, v := true })
      (fun s => { s with
        a := 0x40, x := 0x00, y := 0x00, pc := 0x0602, c := true, z := false, v := false, n := false, cyc := -2 }) ∧
    stepsTo 0x0600 [0x69, 0x01]
      (fun s => { s with a := 0x09, d := true })
      (fun s => { s with
        a := 0x0A, x := 0x00, y := 0x00, pc := 0x0602, c := false, z := false, v := false, n := false, d := true, cyc := -2 }) ∧
    stepsTo 0x0600 [0x75, 0x10]
      (fun s => { s.memWrite 0x0012 0x02 with a := 0x01, x := 0x02, c := true })
      (fun s => { s with
        a := 0x04, x := 0x02, y := 0x00, pc := 0x0602, c := false, z := false, v := false, n := false, cyc := -4 }) ∧
    stepsTo 0x0600 [0x79, 0xF0, 0x02]
      (fun s => { s.memWrite 0x0310 0x7E with a := 0x01, y := 0x20 })
      (fun s => { s with
        a := 0x7F, x := 0x00, y := 0x20, pc := 0x0603, c := false, z := false, v := false, n := false, cyc := -5 }) ∧
    stepsTo 0x0600 [0x69, 0x00]
      (fun s => { s with a := 0x00, n := true, v := true })
      (fun s => { s with
        a := 0x00, x := 0x00, y := 0x00, pc := 0x0602, c := false, z := true, v := false, n := false, cyc := -2 }) := by decide

/-- V60, V61, V62 of 95_test_vectors.md. -/
theorem test_step_and :
    stepsTo 0x0600 [0x29, 0x3C]
      (fun s => { s with a := 0xF0 })
      (fun s => { s with
        a := 0x30, x := 0x00, y := 0x00, pc := 0x0602, c := false, z := false, v := false, n := false, cyc := -2 }) ∧
    stepsTo 0x0600 [0x29, 0x0F]
      (fun s => { s with a := 0xF0, c := true, v := true })
      (fun s => { s with
        a := 0x00, x := 0x00, y := 0x00, pc := 0x0602, c := true, z := true, v := true, n := false, cyc := -2 }) ∧
    stepsTo 0x0600 [0x25, 0x40]
      (fun s => { s.memWrite 0x0040 0x80 with a := 0xFF })
      (fun s => { s with
        a := 0x80, x := 0x00, y := 0x00, pc := 0x0602, c := false, z := false, v := false, n := true, cyc := -3 }) := by decide

/-- V63, V64, V65 of 95_test_vectors.md. -/
theorem test_step_eor :
    stepsTo 0x0600 [0x49, 0x3C]
      (fun s => { s with a := 0xF0 })
      (fun s => { s with
        a := 0xCC, x := 0x00, y := 0x00, pc := 0x0602, c := false, z := false, v := false, n := true, cyc := -2 }) ∧
    stepsTo 0x0600 [0x49, 0xFF]
      (fun s => { s with a := 0xFF })
      (fun s => { s with
        a := 0x00, x := 0x00, y := 0x00, pc := 0x0602, c := false, z := true, v := false, n := false, cyc := -2 }) ∧
    stepsTo 0x0600 [0x5D, 0x10, 0x02]
      (fun s => { s.memWrite 0x0300 0xF0 with a := 0x0F, x := 0xF0 })
      (fun s => { s with
        a := 0xFF, x := 0xF0, y := 0x00, pc := 0x0603, c := false, z := false, v := false, n := true, cyc := -5 }) := by decide

/-- V66, V67, V68 of 95_test_vectors.md. -/
theorem test_step_ora :
    stepsTo 0x0600 [0x09, 0x3C]
      (fun s => { s with a := 0xF0 })
      (fun s => { s with
        a := 0xFC, x := 0x00, y := 0x00, pc := 0x0602, c := false, z := false, v := false, n := true, cyc := -2 }) ∧
    stepsTo 0x0600 [0x09, 0x00]
      (fun s => { s with a := 0x00, n := true })
      (fun s => { s with
        a := 0x00, x := 0x00, y := 0x00, pc := 0x0602, c := false, z := true, v := false, n := false, cyc := -2 }) ∧
    stepsTo 0x0600 [0x05, 0x05]
      (fun s => { s.memWrite 0x0005 0x02 with a := 0x01 })
      (fun s => { s with
        a := 0x03, x := 0x00, y := 0x00, pc := 0x0602, c := false, z := false, v := false, n := false, cyc := -3 }) := by decide

/-- V70, V71, V72, V73 of 95_test_vectors.md. -/
theorem test_step_bit :
    stepsTo 0x0600 [0x24, 0x40]
      (fun s => { s.memWrite 0x0040 0x8F with a := 0x0F })
      (fun s => { s with
        a := 0x0F, x := 0x00, y := 0x00, pc := 0x0602, c := false, z := false, v := false, n := true, cyc := -3 }) ∧
    stepsTo 0x0600 [0x24, 0x40]
      (fun s => { s.memWrite 0x0040 0xC0 with a := 0x00 })
      (fun s => { s with
        a := 0x00, x := 0x00, y := 0x00, pc := 0x0602, c := false, z := true, v := true, n := true, cyc := -3 }) ∧
    stepsTo 0x0600 [0x2C, 0x34, 0x12]
      (fun s => { s.memWrite 0x1234 0x40 with a := 0xFF, n := true, c := true })
      (fun s => { s with
        a := 0xFF, x := 0x00, y := 0x00, pc := 0x0603, c := true, z := false, v := true, n := false, cyc := -4 }) ∧
    stepsTo 0x0600 [0x24, 0x40]
      (fun s => { s.memWrite 0x0040 0x01 with a := 0x01, v := true, n := true, z := true })
      (fun s => { s with
        a := 0x01, x := 0x00, y := 0x00, pc := 0x0602, c := false, z := false, v := false, n := false, cyc := -3 }) := by decide

/-- V80, V81, V82, V83 of 95_test_vectors.md. -/
theorem test_step_inc :
    stepsTo 0x0600 [0xE6, 0x10]
      (fun s => s.memWrite 0x0010 0xFF)
      (fun s => { s.memWrite 0x0010 0x00 with
        a := 0x00, x := 0x00, y := 0x00, pc := 0x0602, c := false, z := true, v := false, n := false, cyc := -5 }) ∧
    stepsTo 0x0600 [0xF6, 0x10]
      (fun s => { s.memWrite 0x0011 0x7F with x := 0x01 })
      (fun s => { s.memWrite 0x0011 0x80 with
        a := 0x00, x := 0x01, y := 0x00, pc := 0x0602, c := false, z := false, v := false, n := true, cyc := -6 }) ∧
    stepsTo 0x0600 [0xEE, 0x00, 0x03]
      (fun s => s.memWrite 0x0300 0x00)
      (fun s => { s.memWrite 0x0300 0x01 with
        a := 0x00, x := 0x00, y := 0x00, pc := 0x0603, c := false, z := false, v := false, n := false, cyc := -6 }) ∧
    stepsTo 0x0600 [0xFE, 0xFF, 0x02]
      (fun s => { s.memWrite 0x0300 0x41 with x := 0x01 })
      (fun s => { s.memWrite 0x0300 0x42 with
        a := 0x00, x := 0x01, y := 0x00, pc := 0x0603, c := false, z := false, v := false, n := false, cyc := -7 }) := by decide

/-- V84, V85, V86, V87 of 95_test_vectors.md. -/
theorem test_step_dec :
    stepsTo 0x0600 [0xC6, 0x10]
      (fun s => { s.memWrite 0x0010 0x00 with c := true })
      (fun s => { s.memWrite 0x0010 0xFF with
        a := 0x00, x := 0x00, y := 0x00, pc := 0x0602, c := true, z := false, v := false, n := true, cyc := -5 }) ∧
    stepsTo 0x0600 [0xD6, 0x10]
      (fun s => { s.memWrite 0x0000 0x01 with x := 0xF0 })
      (fun s => { s.memWrite 0x0000 0x00 with
        a := 0x00, x := 0xF0, y := 0x00, pc := 0x0602, c := false, z := true, v := false, n := false, cyc := -6 }) ∧
    stepsTo 0x0600 [0xCE, 0x00, 0x03]
      (fun s => s.memWrite 0x0300 0x80)
      (fun s => { s.memWrite 0x0300 0x7F with
        a := 0x00, x := 0x00, y := 0x00, pc := 0x0603, c := false, z := false, v := false, n := false, cyc := -6 }) ∧
    stepsTo 0x0600 [0xDE, 0x00, 0x03]
      (fun s => { s.memWrite 0x0301 0x10 with x := 0x01 })
      (fun s => { s.memWrite 0x0301 0x0F with
        a := 0x00, x := 0x01, y := 0x00, pc := 0x0603, c := false, z := false, v := false, n := false, cyc := -7 }) := by decide

/-- V88 of 95_test_vectors.md. -/
theorem test_step_inx :
    stepsTo 0x0600 [0xE8]
      (fun s => { s with x := 0xFF })
      (fun s => { s with
        a := 0x00, x := 0x00, y := 0x00, pc := 0x0601, c := false, z := true, v := false, n := false, cyc := -2 }) := by decide

/-- V89 of 95_test_vectors.md. -/
theorem test_step_iny :
    stepsTo 0x0600 [0xC8]
      (fun s => { s with y := 0x7F })
      (fun s => { s with
        a := 0x00, x := 0x00, y := 0x80, pc := 0x0601, c := false, z := false, v := false, n := true, cyc := -2 }) := by decide

/-- V90 of 95_test_vectors.md. -/
theorem test_step_dex :
    stepsTo 0x0600 [0xCA]
      (fun s => { s with x := 0x01 })
      (fun s => { s with
        a := 0x00, x := 0x00, y := 0x00, pc := 0x0601, c := false, z := true, v := false, n := false, cyc := -2 }) := by decide

/-- V91 of 95_test_vectors.md. -/
theorem test_step_dey :
    stepsTo 0x0600 [0x88]
      (fun s => { s with y := 0x00 })
      (fun s => { s with
        a := 0x00, x := 0x00, y := 0xFF, pc := 0x0601, c := false, z := false, v := false, n := true, cyc := -2 }) := by decide

/-- V100, V101, V102 of 95_test_vectors.md. -/
theorem test_step_asl :
    stepsTo 0x0600 [0x0A]
      (fun s => { s with a := 0x81 })
      (fun s => { s with
        a := 0x02, x := 0x00, y := 0x00, pc := 0x0601, c := true, z := false, v := false, n := false, cyc := -2 }) ∧
    stepsTo 0x0600 [0x0A]
      (fun s => { s with a := 0x80 })
      (fun s => { s with
        a := 0x00, x := 0x00, y := 0x00, pc := 0x0601, c := true, z := true, v := false, n := false, cyc := -2 }) ∧
    stepsTo 0x0600 [0x06, 0x20]
      (fun s => { s.memWrite 0x0020 0x40 with c := true })
      (fun s => { s.memWrite 0x0020 0x80 with
        a := 0x00, x := 0x00, y := 0x00, pc := 0x0602, c := false, z := false, v := false, n := true, cyc := -5 }) := by decide

/-- V103, V104, V105 of 95_test_vectors.md. -/
theorem test_step_lsr :
    stepsTo 0x0600 [0x4A]
      (fun s => { s with a := 0x01, n := true })
      (fun s => { s with
        a := 0x00, x := 0x00, y := 0x00, pc := 0x0601, c := true, z := true, v := false, n := false, cyc := -2 }) ∧
    stepsTo 0x0600 [0x46, 0x20]
      (fun s => { s.memWrite 0x0020 0x81 with a := 0x33 })
      (fun s => { s.memWrite 0x0020 0x40 with
        a := 0x33, x := 0x00, y := 0x00, pc := 0x0602, c := true, z := false, v := false, n := false, cyc := -5 }) ∧
    stepsTo 0x0600 [0x5E, 0x00, 0x03]
      (fun s => { s.memWrite 0x03FF 0xFE with x := 0xFF, c := true })
      (fun s => { s.memWrite 0x03FF 0x7F with
        a := 0x00, x := 0xFF, y := 0x00, pc := 0x0603, c := false, z := false, v := false, n := false, cyc := -7 }) := by decide

/-- V106, V107, V108, V109, V114 of 95_test_vectors.md. -/
theorem test_step_rol :
    stepsTo 0x0600 [0x2A]
      (fun s => { s with a := 0x55, c := true })
      (fun s => { s with
        a := 0xAB, x := 0x00, y := 0x00, pc := 0x0601, c := false, z := false, v := false, n := true, cyc := -2 }) ∧
    stepsTo 0x0600 [0x2A]
      (fun s => { s with a := 0x80 })
      (fun s => { s with
        a := 0x00, x := 0x00, y := 0x00, pc := 0x0601, c := true, z := true, v := false, n := false, cyc := -2 }) ∧
    stepsTo 0x0600 [0x2A]
      (fun s => { s with a := 0x80, c := true })
      (fun s => { s with
        a := 0x01, x := 0x00, y := 0x00, pc := 0x0601, c := true, z := false, v := false, n := false, cyc := -2 }) ∧
    stepsTo 0x0600 [0x26, 0x31]
      (fun s => { s.memWrite 0x0031 0x20 with c := true })
      (fun s => { s.memWrite 0x0031 0x41 with
        a := 0x00, x := 0x00, y := 0x00, pc := 0x0602, c := false, z := false, v := false, n := false, cyc := -5 }) ∧
    stepsTo 0x0600 [0x3E, 0x80, 0x03]
      (fun s => { s.memWrite 0x0400 0xFF with x := 0x80 })
      (fun s => { s.memWrite 0x0400 0xFE with
        a := 0x00, x := 0x80, y := 0x00, pc := 0x0603, c := true, z := false, v := false, n := true, cyc := -7 }) := by decide

/-- V110, V111, V112, V113 of 95_test_vectors.md. -/
theorem test_step_ror :
    stepsTo 0x0600 [0x6A]
      (fun s => { s with a := 0x01, c := true })
      (fun s => { s with
        a := 0x80, x := 0x00, y := 0x00, pc := 0x0601, c := true, z := false, v := false, n := true, cyc := -2 }) ∧
    stepsTo 0x0600 [0x6A]
      (fun s => { s with a := 0x01 })
      (fun s => { s with
        a := 0x00, x := 0x00, y := 0x00, pc := 0x0601, c := true, z := true, v := false, n := false, cyc := -2 }) ∧
    stepsTo 0x0600 [0x66, 0x31]
      (fun s => { s.memWrite 0x0031 0xAA with c := true })
      (fun s => { s.memWrite 0x0031 0xD5 with
        a := 0x00, x := 0x00, y := 0x00, pc := 0x0602, c := false, z := false, v := false, n := true, cyc := -5 }) ∧
    stepsTo 0x0600 [0x76, 0x10]
      (fun s => { s.memWrite 0x0005 0x02 with x := 0xF5 })
      (fun s => { s.memWrite 0x0005 0x01 with
        a := 0x00, x := 0xF5, y := 0x00, pc := 0x0602, c := false, z := false, v := false, n := false, cyc := -6 }) := by decide

/-- V120 of 95_test_vectors.md. -/
theorem test_step_clc :
    stepsTo 0x0600 [0x18]
      (fun s => { s with c := true, z := true, i := true, d := true, b := true, v := true, n := true })
      (fun s => { s with
        a := 0x00, x := 0x00, y := 0x00, pc := 0x0601, c := false, z := true, v := true, n := true, i := true, d := true, b := true, cyc := -2 }) := by decide

/-- V121 of 95_test_vectors.md. -/
theorem test_step_sec :
    stepsTo 0x0600 [0x38]
      (fun s => s)
      (fun s => { s with
        a := 0x00, x := 0x00, y := 0x00, pc := 0x0601, c := true, z := false, v := false, n := false, cyc := -2 }) := by decide

/-- V122 of 95_test_vectors.md. -/
theorem test_step_cli :
    stepsTo 0x0600 [0x58]
      (fun s => { s with i := true })
      (fun s => { s with
        a := 0x00, x := 0x00, y := 0x00, pc := 0x0601, c := false, z := false, v := false, n := false, i := false, cyc := -2 }) := by decide

/-- V123 of 95_test_vectors.md. -/
theorem test_step_sei :
    stepsTo 0x0600 [0x78]
      (fun s => s)
      (fun s => { s with
        a := 0x00, x := 0x00, y := 0x00, pc := 0x0601, c := false, z := false, v := false, n := false, i := true, cyc := -2 }) := by decide

/-- V124 of 95_test_vectors.md. -/
theorem test_step_clv :
    stepsTo 0x0600 [0xB8]
      (fun s => { s with v := true, c := true })
      (fun s => { s with
        a := 0x00, x := 0x00, y := 0x00, pc := 0x0601, c := true, z := false, v := false, n := false, cyc := -2 }) := by decide

/-- V125 of 95_test_vectors.md. -/
theorem test_step_cld :
    stepsTo 0x0600 [0xD8]
      (fun s => { s with d := true })
      (fun s => { s with
        a := 0x00, x := 0x00, y := 0x00, pc := 0x0601, c := false, z := false, v := false, n := false, d := false, cyc := -2 }) := by decide

/-- V126 of 95_test_vectors.md. -/
theorem test_step_sed :
    stepsTo 0x0600 [0xF8]
      (fun s => s)
      (fun s => { s with
        a := 0x00, x := 0x00, y := 0x00, pc := 0x0601, c := false, z := false, v := false, n := false, d := true, cyc := -2 }) := by decide

/-- V130, V131, V133 of 95_test_vectors.md. -/
theorem test_step_bne :
    stepsTo 0x0200 [0xD0, 0xFE]
      (fun s => s)
      (fun s => { s with
        a := 0x00, x := 0x00, y := 0x00, pc := 0x0200, c := false, z := false, v := false, n := false, cyc := -3 }) ∧
    stepsTo 0x0200 [0xD0, 0xFE]
      (fun s => { s with z := true })
      (fun s => { s with
        a := 0x00, x := 0x00, y := 0x00, pc := 0x0202, c := false, z := true, v := false, n := false, cyc := -2 }) ∧
    stepsTo 0x0300 [0xD0, 0xFC]
      (fun s => s)
      (fun s => { s with
        a := 0x00, x := 0x00, y := 0x00, pc := 0x02FE, c := false, z := false, v := false, n := false, cyc := -4 }) := by decide

/-- V132, V142, V148 of 95_test_vectors.md. -/
theorem test_step_beq :
    stepsTo 0x02FD [0xF0, 0x02]
      (fun s => { s with z := true })
      (fun s => { s with
        a := 0x00, x := 0x00, y := 0x00, pc := 0x0301, c := false, z := true, v := false, n := false, cyc := -4 }) ∧
    stepsTo 0x0400 [0xF0, 0x00]
      (fun s => { s with z := true })
      (fun s => { s with
        a := 0x00, x := 0x00, y := 0x00, pc := 0x0402, c := false, z := true, v := false, n := false, cyc := -3 }) ∧
    stepsTo 0x0400 [0xF0, 0x04]
      (fun s => s)
      (fun s => { s with
        a := 0x00, x := 0x00, y := 0x00, pc := 0x0402, c := false, z := false, v := false, n := false, cyc := -2 }) := by decide

/-- V134, V143 of 95_test_vectors.md. -/
theorem test_step_bpl :
    stepsTo 0xFFFD [0x10, 0x05]
      (fun s => s)
      (fun s => { s with
        a := 0x00, x := 0x00, y := 0x00, pc := 0x0004, c := false, z := false, v := false, n := false, cyc := -4 }) ∧
    stepsTo 0x0400 [0x10, 0x04]
      (fun s => { s with n := true })
      (fun s => { s with
        a := 0x00, x := 0x00, y := 0x00, pc := 0x0402, c := false, z := false, v := false, n := true, cyc := -2 }) := by decide

/-- V135, V136 of 95_test_vectors.md. -/
theorem test_step_bmi :
    stepsTo 0x0000 [0x30, 0xFB]
      (fun s => { s with n := true })
      (fun s => { s with
        a := 0x00, x := 0x00, y := 0x00, pc := 0xFFFD, c := false, z := false, v := false, n := true, cyc := -4 }) ∧
    stepsTo 0x0400 [0x30, 0x04]
      (fun s => s)
      (fun s => { s with
        a := 0x00, x := 0x00, y := 0x00, pc := 0x0402, c := false, z := false, v := false, n := false, cyc := -2 }) := by decide

/-- V137, V146 of 95_test_vectors.md. -/
theorem test_step_bvc :
    stepsTo 0x0400 [0x50, 0x04]
      (fun s => s)
      (fun s => { s with
        a := 0x00, x := 0x00, y := 0x00, pc := 0x0406, c := false, z := false, v := false, n := false, cyc := -3 }) ∧
    stepsTo 0x0400 [0x50, 0x04]
      (fun s => { s with v := true })
      (fun s => { s with
        a := 0x00, x := 0x00, y := 0x00, pc := 0x0402, c := false, z := false, v := true, n := false, cyc := -2 }) := by decide

/-- V138, V144 of 95_test_vectors.md. -/
theorem test_step_bvs :
    stepsTo 0x0400 [0x70, 0x04]
      (fun s => { s with v := true })
      (fun s => { s with
        a := 0x00, x := 0x00, y := 0x00, pc := 0x0406, c := false, z := false, v := true, n := false, cyc := -3 }) ∧
    stepsTo 0x0400 [0x70, 0x04]
      (fun s => s)
      (fun s => { s with
        a := 0x00, x := 0x00, y := 0x00, pc := 0x0402, c := false, z := false, v := false, n := false, cyc := -2 }) := by decide

/-- V139, V145 of 95_test_vectors.md. -/
theorem test_step_bcc :
    stepsTo 0x0400 [0x90, 0x04]
      (fun s => s)
      (fun s => { s with
        a := 0x00, x := 0x00, y := 0x00, pc := 0x0406, c := false, z := false, v := false, n := false, cyc := -3 }) ∧
    stepsTo 0x0400 [0x90, 0x04]
      (fun s => { s with c := true })
      (fun s => { s with
        a := 0x00, x := 0x00, y := 0x00, pc := 0x0402, c := true, z := false, v := false, n := false, cyc := -2 }) := by decide

/-- V140, V141, V147 of 95_test_vectors.md. -/
theorem test_step_bcs :
    stepsTo 0x0400 [0xB0, 0x7F]
      (fun s => { s with c := true })
      (fun s => { s with
        a := 0x00, x := 0x00, y := 0x00, pc := 0x0481, c := true, z := false, v := false, n := false, cyc := -3 }) ∧
    stepsTo 0x0400 [0xB0, 0x80]
      (fun s => { s with c := true })
      (fun s => { s with
        a := 0x00, x := 0x00, y := 0x00, pc := 0x0382, c := true, z := false, v := false, n := false, cyc := -4 }) ∧
    stepsTo 0x0400 [0xB0, 0x04]
      (fun s => s)
      (fun s => { s with
        a := 0x00, x := 0x00, y := 0x00, pc := 0x0402, c := false, z := false, v := false, n := false, cyc := -2 }) := by decide

/-- V150, V151 of 95_test_vectors.md. -/
theorem test_step_nop :
    stepsTo 0x0600 [0xEA]
      (fun s => { s with a := 0x01, x := 0x02, y := 0x03, c := true, n := true })
      (fun s => { s with
        a := 0x01, x := 0x02, y := 0x03, pc := 0x0601, c := true, z := false, v := false, n := true, cyc := -2 }) ∧
    stepsTo 0xFFFF [0xEA]
      (fun s => s)
      (fun s => { s with
        a := 0x00, x := 0x00, y := 0x00, pc := 0x0000, c := false, z := false, v := false, n := false, cyc := -2 }) := by decide

/-- V152, V153, V154, V155, V156, V157, V158 of 95_test_vectors.md. -/
theorem test_step_unknown_opcode :
    stepsTo 0x0600 [0x00]
      (fun s => s)
      (fun s => { s with
        a := 0x00, x := 0x00, y := 0x00, pc := 0x0601, c := false, z := false, v := false, n := false, fault := some ⟨0x00, 0x0600⟩ }) ∧
    stepsTo 0x0600 [0x4C, 0x00, 0x06]
      (fun s => s)
      (fun s => { s with
        a := 0x00, x := 0x00, y := 0x00, pc := 0x0601, c := false, z := false, v := false, n := false, fault := some ⟨0x4C, 0x0600⟩ }) ∧
    stepsTo 0x0600 [0xB1, 0x10]
      (fun s => { s with a := 0x11 })
      (fun s => { s with
        a := 0x11, x := 0x00, y := 0x00, pc := 0x0601, c := false, z := false, v := false, n := false, fault := some ⟨0xB1, 0x0600⟩ }) ∧
    stepsTo 0x0600 [0xE9, 0x01]
      (fun s => { s with a := 0x11, c := true })
      (fun s => { s with
        a := 0x11, x := 0x00, y := 0x00, pc := 0x0601, c := true, z := false, v := false, n := false, fault := some ⟨0xE9, 0x0600⟩ }) ∧
    stepsTo 0xFFFF [0x02]
      (fun s => s)
      (fun s => { s with
        a := 0x00, x := 0x00, y := 0x00, pc := 0x0000, c := false, z := false, v := false, n := false, fault := some ⟨0x02, 0xFFFF⟩ }) ∧
    stepsTo 0x0600 [0xC9, 0x01]
      (fun s => s)
      (fun s => { s with
        a := 0x00, x := 0x00, y := 0x00, pc := 0x0601, c := false, z := false, v := false, n := false, fault := some ⟨0xC9, 0x0600⟩ }) ∧
    stepsTo 0x0600 [0x1A]
      (fun s => { s with a := 0x01 })
      (fun s => { s with
        a := 0x01, x := 0x00, y := 0x00, pc := 0x0601, c := false, z := false, v := false, n := false, fault := some ⟨0x1A, 0x0600⟩ }) := by decide

/-! ### The resolver, the bytes of a word, and the host commands -/

/-- Vectors A2, A3, A4, A6, A7, A9, A10 and A12: the address and crossed. -/
theorem test_resolver :
    resolveAddr (.zeroPageX 0xF0) { State.reset with x := 0x20 } = ⟨0x0010, false⟩ ∧
    resolveAddr (.zeroPageX 0xFF) { State.reset with x := 0xFF } = ⟨0x00FE, false⟩ ∧
    resolveAddr (.zeroPageY 0x80) { State.reset with y := 0x80 } = ⟨0x0000, false⟩ ∧
    resolveAddr (.absoluteX 0x01FF) { State.reset with x := 0x01 } = ⟨0x0200, true⟩ ∧
    resolveAddr (.absoluteX 0x0200) { State.reset with x := 0xFF } = ⟨0x02FF, false⟩ ∧
    resolveAddr (.absoluteY 0xFFFF) { State.reset with y := 0x01 } = ⟨0x0000, true⟩ ∧
    resolveAddr (.absoluteY 0xFF01) { State.reset with y := 0xFF } = ⟨0x0000, true⟩ ∧
    resolveAddr (.absoluteY 0x4080) { State.reset with y := 0x80 } = ⟨0x4100, true⟩ := by decide

/-- R81: byte 0 in bits 7:0, byte 1 in bits 15:8, byte 2 in bits 23:16; absent bits are 0. -/
theorem test_table_word :
    decodeTableWord 24 0xC35AAD = some (.ldaAbs 0xC35A) ∧
    decodeTableWord 16 0x9BB0 = some (.bcs 0x9B) ∧
    decodeTableWord 8 0xC35AAD = some (.ldaAbs 0x0000) ∧
    decodeTableWord 8 0x00 = none := by decide

/-- The step after reset runs the instruction that `withFetchWord` places (log entry 4): BNE to itself,
Z being 0 after reset, costs 3 (R214). -/
theorem test_fetch_word :
    (match step (State.reset.withFetchWord 16 0xFED0) with
      | .next t => decide (t.pc = State.reset.pc ∧ t.cyc = -3 ∧ t.fault = none)
      | .fault _ => false
      | .refused _ => false) = true := by decide

/-- The bytes `A9 01 02 A2 05` of vector H6 at 0600. -/
def programH6 : State := baseState 0x0600 [0xA9, 0x01, 0x02, 0xA2, 0x05] id

/-- Vectors H6 and H7: the exception after one instruction, and `execute` refused from then on. -/
theorem test_execute_raises :
    runCommand (.execute 10) programH6 =
      ({ programH6 with a := 0x01, pc := 0x0603, cyc := 8, fault := some ⟨0x02, 0x0602⟩ },
        .raised ⟨0x02, 0x0602⟩) ∧
    (runCommand (.execute 10)
      (runCommands [.execute 10, .setRegister .pc 0x0603] programH6)).2 = .refused := by decide

/-- Vector H10: overshoot of the first command, then LDY and the fetch of 00. -/
theorem test_execute_overshoots :
    let s := baseState 0x0600 [0xA9, 0x01, 0xA2, 0x02, 0xA0, 0x03] id
    execute 3 s = { s with a := 0x01, x := 0x02, pc := 0x0604, cyc := -1 } ∧
    execute 3 (execute 3 s) =
      { s with a := 0x01, x := 0x02, y := 0x03, pc := 0x0607, cyc := 1, fault := some ⟨0x00, 0x0606⟩ } := by
  decide

/-- Vectors H13 to H15: values reduced, one item written. -/
theorem test_host_accessors :
    runCommand (.setRegister (.data .a) 0x1FF) State.reset = ({ State.reset with a := 0xFF }, .done) ∧
    runCommand (.setRegister .pc 0x12345) State.reset = ({ State.reset with pc := 0x2345 }, .done) ∧
    runCommand (.setMemory 0x0010 (-1)) State.reset =
      ({ State.reset with mem := [(0x0010, 0xFF)] }, .done) ∧
    runCommand (.setStatus .n true) State.reset = ({ State.reset with n := true }, .done) := by decide

/-! ### Witnesses: for each statement with hypotheses, a state and operands that meet all of them -/

/-- LDA $10 at 0600, with 7F at 0010 (vector V3) and other state set. -/
def loadState : State :=
  baseState 0x0600 [0xA5, 0x10] fun s => { s.memWrite 0x0010 0x7F with x := 0x11, n := true }

/-- STA $01FF,X at 0600 (vector V23). -/
def storeState : State :=
  baseState 0x0600 [0x9D, 0xFF, 0x01] fun s => { s with a := 0x99, x := 0x01 }

/-- Byte B1 at 0600 (vector V154). -/
def absentState : State := baseState 0x0600 [0xB1, 0x10] fun s => { s with a := 0x11 }

/-- A state whose latch is set. -/
def latchedState : State := { absentState with pc := 0x0601, fault := some ⟨0xB1, 0x0600⟩ }

theorem witness_EncodeOfDecodeIsIdentity :
    decode [0xAD, 0x34, 0x12, 0x77] = .instr (.ldaAbs 0x1234) [0x77] := by decide

theorem witness_StepRunsDecodedInstruction :
    loadState.fault = none ∧
    decode [loadState.mem.read loadState.pc, loadState.mem.read (loadState.pc + 1),
      loadState.mem.read (loadState.pc + 2)] = .instr (.ldaZp 0x10) [0x00] := by decide

theorem witness_StepRaisesUnknownOpcode :
    absentState.fault = none ∧ absentState.mem.read absentState.pc ∈ absentBytes := by decide

/-- Both sides of the first clause, and the third. -/
theorem witness_UnknownOpcodeIsTheOnlyException :
    (loadState.fault = none ∧ descriptorOf (loadState.mem.read loadState.pc) ≠ none) ∧
    (absentState.fault = none ∧ descriptorOf (absentState.mem.read absentState.pc) = none) ∧
    latchedState.fault ≠ none := by decide

theorem witness_LatchedMachineDoesNothing :
    latchedState.fault = some ⟨0xB1, 0x0600⟩ ∧
    Command.setRegister (.data .a) 5 ≠ .reset ∧ Command.execute 10 ≠ .reset := by decide

theorem witness_StepIsTheSpecsPseudocode :
    loadState.fault = none ∧ storeState.fault = none ∧ absentState.fault = none := by decide

/-- A storing step: its one write, and an address outside it; a step that raises the exception. -/
theorem witness_StepWritesOnlyItsAccesses :
    step storeState = .next (store .a (.absoluteX 0x01FF) storeState) ∧
    Access.write 0x0200 ∈ stepAccesses storeState ∧
    Access.write 0x0201 ∉ stepAccesses storeState ∧
    storeState.fetchInstr = some (.staAbx 0x01FF) ∧
    step absentState = .next absentState.raiseUnknownOpcode ∧ absentState.fetchInstr = none :=
  ⟨rfl, by decide, by decide, by decide, rfl, by decide⟩

/-- A second memory that differs at 4000, which LDA $10 at 0600 does not read; one address that the
step reads, one it fetches, one it does not write. -/
theorem witness_StepDependsOnlyOnBytesItReads :
    loadState.fault = none ∧
    (∀ p, Access.fetch p ∈ stepAccesses loadState ∨ Access.read p ∈ stepAccesses loadState →
      (loadState.mem.write 0x4000 0x55).read p = loadState.mem.read p) ∧
    loadState.mem.write 0x4000 0x55 ≠ loadState.mem ∧
    Access.read 0x0010 ∈ stepAccesses loadState ∧ Access.fetch 0x0601 ∈ stepAccesses loadState ∧
    Access.write 0x4000 ∉ stepAccesses loadState ∧ Access.write 0x0200 ∈ stepAccesses storeState := by
  refine ⟨rfl, fun p hp => ?_, by decide, by decide, by decide, by decide, by decide⟩
  have acc : stepAccesses loadState = [.fetch 0x0600, .fetch 0x0601, .read 0x0010] := by decide
  rw [acc] at hp
  refine Memory.read_write_other _ _ _ _ ?_
  rintro rfl
  revert hp
  decide

theorem witness_StoredByteIsFetchedNext :
    let s := baseState 0x0600 [0x8D, 0x03, 0x06] fun s => { s with a := 0xE8 }
    s.fault = none ∧ s.a = 0xE8 := by decide

/-- A state with bytes in memory, and one with the latch set, meet the invariant. -/
theorem witness_State_Inv : storeState.Inv ∧ latchedState.Inv :=
  ⟨⟨by decide, nofun⟩, ⟨by decide, fun e he => by cases he; decide⟩⟩

theorem witness_StepKeepsInvariant :
    storeState.Inv ∧ step storeState = .next (store .a (.absoluteX 0x01FF) storeState) :=
  ⟨witness_State_Inv.1, rfl⟩

theorem witness_CommandsKeepInvariant : latchedState.Inv := witness_State_Inv.2

theorem witness_CanonicalMemoriesAreEqualData :
    let m := (Memory.write [] 0x0005 0x01).write 0x0003 0x02
    let m' := (Memory.write [] 0x0003 0x02).write 0x0005 0x01
    m.wf = true ∧ m'.wf = true ∧ ∀ p, m.read p = m'.read p :=
  ⟨by decide, by decide, fun p => congrArg (Memory.read · p) (by decide)⟩

theorem witness_LogicIsBitByBit : (0 < 8) ∧ (7 < 8) := by decide

theorem witness_IncDecWrapAndBitTest :
    (Instr.descriptor (.incZp 0x10)).kind = .incDec .inc .memory ∧
    exec (.incZp 0x10) loadState = .next (incDecMemory .inc (.zeroPage 0x10) loadState) ∧
    (Instr.descriptor .dey).kind = .incDec .dec (.register .y) ∧
    exec .dey loadState = .next (incDecRegister .dec .y loadState) :=
  ⟨rfl, rfl, rfl, rfl⟩

/-- An instruction of each of the three modes. -/
theorem witness_ZeroPageIndexStaysInPageZero :
    (Instr.descriptor (.ldaZp 0xFF)).mode = .zeroPage ∧
    (Instr.descriptor (.ldaZpx 0xFF)).mode = .zeroPageX ∧
    (Instr.descriptor (.ldxZpy 0xFF)).mode = .zeroPageY ∧
    (Instr.descriptor (.stxZpy 0x00)).mode = .zeroPageY := by decide

theorem witness_AbsoluteIndexWrapsAndCrosses :
    (Instr.descriptor (.ldaAbx 0xFFFF)).mode = .absoluteX ∧
    (Instr.descriptor (.ldxAby 0x0000)).mode = .absoluteY := by decide

theorem witness_FetchReadsAndAdvances :
    let s := baseState 0xFFFF [0xEA] id
    s.pc = 0xFFFF ∧ s.mem.read 0xFFFF = 0xEA := by decide

/-- The frame predicates: a register, a flag and an address outside the written ones, at the ends of
their ranges, and a bit of each end. -/
theorem witness_frames :
    Reg.a ∉ [Reg.sp] ∧ Reg.sp ∉ [Reg.a] ∧ Flag.c ∉ [Flag.z, .n] ∧ Flag.n ∉ [Flag.c] ∧
    (0x0000 : Addr) ≠ 0xFFFF ∧ (0xFFFF : Addr) ≠ 0x0000 := by decide

/-- A branch taken and not taken, an instruction that is no branch, and host commands that do not write
pc. -/
theorem witness_PcChangesOnlyAsFetchOrBranch :
    exec (.bne 0xFE) loadState = .next (branch .z false 0xFE loadState) ∧
    (Instr.descriptor (.bne 0xFE)).kind = .branch .z false ∧ loadState.flag .z = false ∧
    (Instr.descriptor (.beq 0xFE)).kind = .branch .z true ∧ loadState.flag .z ≠ true ∧
    (∀ k w, (Instr.descriptor .nop).kind = .branch k w → loadState.flag k ≠ w) ∧
    (∀ n, Command.setMemory 0xFFFF 0 ≠ .execute n) ∧ Command.setMemory 0xFFFF 0 ≠ .reset ∧
    (∀ v, Command.setMemory 0xFFFF 0 ≠ .setRegister .pc v) :=
  ⟨rfl, rfl, by decide, rfl, by decide, nofun, nofun,
    by decide, nofun⟩

theorem witness_FlagsChangeOnlyAsTabled :
    exec .sec loadState = .next (writeFlag .c true loadState) ∧
    (Instr.descriptor .sec).kind = .setFlag .c ∧
    exec .clv loadState = .next (writeFlag .v false loadState) ∧
    (Instr.descriptor .clv).kind = .clearFlag .v :=
  ⟨rfl, rfl, rfl, rfl⟩

/-- A form that stores, a form that does not. -/
theorem witness_RegistersAndMemoryFrame :
    exec (.incAbx 0x01FF) loadState = .next (incDecMemory .inc (.absoluteX 0x01FF) loadState) ∧
    storesToMemory (Instr.descriptor (.incAbx 0x01FF)) = true ∧
    exec (.ldaZp 0x10) loadState = .next (load .a (.memory (.zeroPage 0x10)) loadState) ∧
    storesToMemory (Instr.descriptor (.ldaZp 0x10)) = false :=
  ⟨rfl, rfl, rfl, rfl⟩

theorem witness_ZAndNFollowEveryWrittenRegister :
    exec .txs loadState = .next (transfer .x .sp loadState) ∧
    Reg.sp ∈ writtenRegs (Instr.descriptor .txs) ∧
    exec (.rorZp 0x10) loadState = .next (shift .ror (.memory (.zeroPage 0x10)) loadState) ∧
    storesToMemory (Instr.descriptor (.rorZp 0x10)) = true ∧
    ∀ r, (Instr.descriptor (.rorZp 0x10)).kind ≠ .store r :=
  ⟨rfl, by decide, rfl, rfl, nofun⟩

/-- Commands and instructions that the exceptions of the three statements do not name. -/
theorem witness_flags_inert :
    (∀ w, Command.setStatus .n true ≠ .setStatus .b w) ∧
    (∀ w, Command.setStatus .n true ≠ .setStatus .i w) ∧ Command.setStatus .n true ≠ .reset ∧
    (∀ n, Command.setStatus .n true ≠ .execute n) ∧ Instr.clc ≠ .sei ∧ Instr.clc ≠ .cli ∧
    Instr.adcImm 0x01 ≠ .sed ∧ Instr.adcImm 0x01 ≠ .cld ∧ Instr.tax ≠ .tsx ∧ Instr.tax ≠ .txs :=
  ⟨nofun, nofun, by decide, nofun, by decide,
    by decide, by decide, by decide, by decide, by decide⟩

theorem witness_ExecuteIsTheWhileLoop :
    latchedState.fault ≠ none ∧ loadState.fault = none ∧ (0 < 1) ∧ loadState.cyc ≤ (0 : Nat) ∧
    (execute 4 loadState).fault = some ⟨0x00, 0x0602⟩ ∧ (execute 3 loadState).fault = none := by
  decide

/-- A run that ends by its budget and one that ends by the exception. -/
theorem witness_ExecuteOvershootsAtMostSix :
    loadState.fault = none ∧ (execute 1 loadState).fault = none ∧
    (execute 9 loadState).fault ≠ none := by decide

theorem witness_ExecuteIsFewSteps : loadState.fault = none := rfl

theorem witness_ExecuteComposesAtExactEnd :
    loadState.fault = none ∧ (execute 3 loadState).fault = none ∧
    (execute 3 loadState).cyc = 0 := by decide

end Sys2Proof.Tests
end

section
/-! PROOFS. The stored bits of the flag register (R30 to R32): an operation commutes with a write of a
flag that it does not name, and so neither reads nor writes it; a run keeps what every step keeps. -/

namespace Sys2Proof.Machine

open Sys2Proof.Statements

/-! ### Which flags an operation names -/

/-- The flags of R30, R31 and R32: bits that no result of the ALU is written to. -/
def IsStored (k : Flag) : Prop := k = .i ∨ k = .d ∨ k = .b

/-- The instruction is a SET_FLAG, CLEAR_FLAG or BRANCH on this flag. -/
def namesFlag (i : Instr) (k : Flag) : Bool :=
  match i.descriptor.kind with
  | .setFlag q | .clearFlag q | .branch q _ => q == k
  | _ => false

/-- R32: there is no instruction on B. -/
theorem namesFlag_b (i : Instr) : namesFlag i .b = false := by cases i <;> rfl

/-- R30: the instructions on I are SEI and CLI. -/
theorem namesFlag_i (i : Instr) (hsei : i ≠ .sei) (hcli : i ≠ .cli) : namesFlag i .i = false := by
  cases i with
  | sei => exact absurd rfl hsei
  | cli => exact absurd rfl hcli
  | _ => rfl

/-! ### A flag write against the operations -/

@[simp] theorem State.flag_setFlag_same (s : State) (k : Flag) (w : Bool) :
    (s.setFlag k w).flag k = w := by simp [State.flag_setFlag]

@[simp] theorem State.setFlag_flag_self (s : State) (k : Flag) : s.setFlag k (s.flag k) = s := by
  cases k <;> rfl

theorem State.setReg_setFlag (s : State) (r : Reg) (v : Byte) (k : Flag) (w : Bool) :
    (s.setFlag k w).setReg r v = (s.setReg r v).setFlag k w := by
  cases k <;> cases r <;> rfl

theorem State.setFlag_setFlag_comm (s : State) {k q : Flag} (h : q ≠ k) (v w : Bool) :
    (s.setFlag k w).setFlag q v = (s.setFlag q v).setFlag k w := by
  revert h
  cases k <;> cases q <;> simp [State.setFlag]

@[simp] theorem resolveAddr_setFlag (o : MemOperand) (s : State) (k : Flag) (w : Bool) :
    resolveAddr o (s.setFlag k w) = resolveAddr o s := by cases o <;> simp [resolveAddr]

@[simp] theorem operandValue_setFlag (o : ValueOperand) (s : State) (k : Flag) (w : Bool) :
    operandValue o (s.setFlag k w) = operandValue o s := by cases o <;> simp [operandValue]

@[simp] theorem operandCrossed_setFlag (o : ValueOperand) (s : State) (k : Flag) (w : Bool) :
    operandCrossed o (s.setFlag k w) = operandCrossed o s := by cases o <;> simp [operandCrossed]

/-- An operation that names no stored flag k commutes with a write of k. -/
theorem Shape.setFlag_comm {i : Instr} {f : State → State} {k : Flag} (h : Shape i f)
    (hk : IsStored k) (hn : namesFlag i k = false) (s : State) (w : Bool) :
    f (s.setFlag k w) = (f s).setFlag k w := by
  cases h with
  | load r o =>
    rw [load_eq, load_eq, operandValue_setFlag, operandCrossed_setFlag, State.setReg_setFlag]
    rcases hk with rfl | rfl | rfl <;> rfl
  | store r o =>
    rw [store_eq, store_eq, resolveAddr_setFlag]
    rcases hk with rfl | rfl | rfl <;> rfl
  | transfer src dst =>
    rw [transfer_eq, transfer_eq, State.reg_setFlag, State.setReg_setFlag]
    rcases hk with rfl | rfl | rfl <;> rfl
  | adc o =>
    rw [adc_eq, adc_eq, operandValue_setFlag, operandCrossed_setFlag]
    rcases hk with rfl | rfl | rfl <;> rfl
  | logical op o =>
    rw [logical_eq, logical_eq, operandValue_setFlag, operandCrossed_setFlag]
    rcases hk with rfl | rfl | rfl <;> rfl
  | bitTest o =>
    rw [bitTest_eq, bitTest_eq, resolveAddr_setFlag]
    rcases hk with rfl | rfl | rfl <;> rfl
  | incDecMemory dir o =>
    rw [incDecMemory_eq, incDecMemory_eq, resolveAddr_setFlag]
    rcases hk with rfl | rfl | rfl <;> rfl
  | incDecRegister dir r =>
    rw [incDecRegister_eq, incDecRegister_eq, State.reg_setFlag, State.setReg_setFlag]
    rcases hk with rfl | rfl | rfl <;> rfl
  | shiftAccumulator kind =>
    rw [shift_accumulator_eq, shift_accumulator_eq]
    rcases hk with rfl | rfl | rfl <;> rfl
  | shiftMemory kind o =>
    rw [shift_memory_eq, shift_memory_eq, resolveAddr_setFlag]
    rcases hk with rfl | rfl | rfl <;> rfl
  | setFlag q hd | clearFlag q hd =>
    have hq : q ≠ k := by simpa [namesFlag, hd] using hn
    rw [writeFlag_eq, writeFlag_eq, State.setFlag_setFlag_comm s hq]
    rcases hk with rfl | rfl | rfl <;> rfl
  | branch q takenWhen rel8 hd =>
    have hq : q ≠ k := by simpa [namesFlag, hd] using hn
    have hread : (s.setFlag k w).flag q = s.flag q := by simp [State.flag_setFlag, hq]
    by_cases ht : s.flag q = takenWhen
    · rw [branch_taken_eq _ _ _ _ ht, branch_taken_eq _ _ _ _ (hread.trans ht)]
      rcases hk with rfl | rfl | rfl <;> rfl
    · rw [branch_not_taken_eq _ _ _ _ ht, branch_not_taken_eq _ _ _ _ (hread ▸ ht)]
      rcases hk with rfl | rfl | rfl <;> rfl
  | nop => rcases hk with rfl | rfl | rfl <;> rfl

/-! ### Inert fields -/

/-- What commutes with every write of a field leaves the field alone: in a state that already holds the
value, the write is no change, so it is none after the instruction either. -/
theorem inert_of_comm {α : Type} {get : State → α} {set : State → α → State} {i : Instr}
    {f : State → State} (hf : ∀ s, exec i s = .next (f s))
    (hcomm : ∀ s w, f (set s w) = set (f s) w) (get_set : ∀ s w, get (set s w) = w)
    (set_get : ∀ s, set s (get s) = s) : Inert get set i := by
  intro s w
  have hkept : get (f s) = get s := calc
    get (f s) = get (f (set s (get s))) := by rw [set_get]
    _ = get (set (f s) (get s)) := by rw [hcomm]
    _ = get s := get_set _ _
  exact ⟨f s, hf s, hkept, by rw [hf, hcomm]⟩

/-- An instruction that names no stored flag k neither reads nor writes it. -/
theorem inert_flag {i : Instr} {k : Flag} (hk : IsStored k) (hn : namesFlag i k = false) :
    Inert (fun s => s.flag k) (fun s w => s.setFlag k w) i := by
  obtain ⟨f, hshape, hf⟩ := exec_shape i
  exact inert_of_comm hf (hshape.setFlag_comm hk hn) (fun s w => s.flag_setFlag_same k w)
    (fun s => s.setFlag_flag_self k)

/-- R32: no instruction reads or writes B. -/
theorem inert_b (i : Instr) : Inert State.b (fun s w => { s with b := w }) i :=
  inert_flag (k := .b) (.inr (.inr rfl)) (namesFlag_b i)

/-- R30: no instruction but SEI and CLI reads or writes I. -/
theorem inert_i (i : Instr) (hsei : i ≠ .sei) (hcli : i ≠ .cli) :
    Inert State.i (fun s w => { s with i := w }) i :=
  inert_flag (k := .i) (.inl rfl) (namesFlag_i i hsei hcli)

/-! ### SET_FLAG and CLEAR_FLAG -/

@[simp] theorem flag_writeFlag_same (k : Flag) (bit : Bool) (s : State) :
    (writeFlag k bit s).flag k = bit := by cases k <;> rfl

/-- The old value of the flag does not matter. -/
@[simp] theorem writeFlag_setFlag_same (k : Flag) (bit w : Bool) (s : State) :
    writeFlag k bit (s.setFlag k w) = writeFlag k bit s := by cases k <;> rfl

/-! ### Steps, runs and host commands -/

theorem step_keeps_b {s t : State} (h : step s = .next t) : t.b = s.b := by
  obtain ⟨e, _, hs⟩ | ⟨_, _, hs⟩ | ⟨i, _, _, hs⟩ := step_cases s <;> rw [hs] at h
  · cases h
  · cases h; simp
  · obtain ⟨u, hu, hb, _⟩ := inert_b i s s.b
    rw [hu] at h
    cases h
    exact hb

/-- The loop of R231 keeps what every step keeps. -/
theorem runLoop_keeps {α : Type} {get : State → α}
    (hstep : ∀ {s t : State}, step s = .next t → get t = get s) (fuel : Nat) (s : State) :
    get (runLoop fuel s) = get s := by
  induction fuel generalizing s with
  | zero => rfl
  | succ fuel ih =>
    by_cases hc : 0 < s.cyc
    · cases hs : step s with
      | next t => rw [runLoop_step fuel s t hc hs, ih, hstep hs]
      | fault r => simp [runLoop, hs]
      | refused r => simp [runLoop, hs]
    · rw [runLoop_done _ s (not_lt.mp hc)]

theorem execute_keeps_b (budget : Nat) (s : State) : (execute budget s).b = s.b := by
  cases hf : s.fault with
  | some e => simp [execute, hf]
  | none => simpa [execute, hf] using runLoop_keeps step_keeps_b budget { s with cyc := budget }

/-- Of the commands that run no instruction only reset and the setter of a flag change the flag (R37 to
R41). -/
theorem runCommand_keeps_flag (s : State) (cmd : Command) (k : Flag)
    (hset : ∀ w, cmd ≠ .setStatus k w) (hreset : cmd ≠ .reset) (hexec : ∀ n, cmd ≠ .execute n) :
    (runCommand cmd s).1.flag k = s.flag k := by
  cases cmd with
  | reset => exact absurd rfl hreset
  | execute n => exact absurd rfl (hexec n)
  | setStatus q bit =>
    have hq : k ≠ q := fun h => hset bit (h ▸ rfl)
    simp [runCommand, State.flag_setFlag, hq]
  | setRegister r value => cases r <;> cases k <;> simp [runCommand, State.setHostReg]
  | setMemory addr value => simp [runCommand]
  | getRegister r => rfl
  | getStatus q => rfl
  | getMemory addr => rfl
  | getProgramCounter => rfl

theorem runCommand_keeps_b (s : State) (cmd : Command) (hset : ∀ w, cmd ≠ .setStatus .b w)
    (hreset : cmd ≠ .reset) : (runCommand cmd s).1.b = s.b := by
  by_cases hexec : ∃ n, cmd = .execute n
  · obtain ⟨n, rfl⟩ := hexec
    exact execute_keeps_b n s
  · exact runCommand_keeps_flag s cmd .b hset hreset (not_exists.mp hexec)

/-! ### The two statements -/

/-- Settles O45: no instruction is on B, so each commutes with a write of it, and `execute` keeps what
every step keeps. -/
theorem breakFlagIsInert : Obligations.BreakFlagIsInert :=
  ⟨inert_b, runCommand_keeps_b, fun _ _ => ⟨rfl, rfl, rfl⟩⟩

/-- Settles O46: the instructions on I are SEI and CLI, and what they write does not depend on I. -/
theorem interruptFlagIsInert : Obligations.InterruptFlagIsInert := by
  refine ⟨inert_i, fun s w => ?_, fun s cmd => runCommand_keeps_flag s cmd .i,
    fun _ _ => ⟨rfl, rfl, rfl⟩⟩
  exact ⟨writeFlag .i true s, writeFlag .i false s, rfl, flag_writeFlag_same .i true s,
    rfl, flag_writeFlag_same .i false s,
    congrArg Host.Outcome.next (writeFlag_setFlag_same .i true w s),
    congrArg Host.Outcome.next (writeFlag_setFlag_same .i false w s)⟩

end Sys2Proof.Machine
end

section
/-! PROOFS. `MemWrite` on the state (R52): the byte it stores and its frame. -/

namespace Sys2Proof.Machine

open Sys2Proof.Statements

theorem memoryKeptBut_memWrite (s : State) (p : Addr) (w : Byte) :
    MemoryKeptBut p s (s.memWrite p w) := fun q hq => Memory.read_write_other s.mem p q w hq

theorem regsKept_memWrite (s : State) (p : Addr) (w : Byte) :
    RegsKept s (s.memWrite p w) [] := fun r _ => s.reg_memWrite p w r

theorem flagsKept_memWrite (s : State) (p : Addr) (w : Byte) :
    FlagsKept s (s.memWrite p w) [] := fun k _ => s.flag_memWrite p w k

/-- A number stored as a byte reads back modulo 256 (R52). -/
theorem read_memWrite_ofNat (s : State) (p : Addr) (v : Nat) :
    ((s.memWrite p (BitVec.ofNat 8 v)).mem.read p).toNat = v % 256 := by
  rw [State.mem_memWrite, Memory.read_write_same, BitVec.toNat_ofNat]

/-- Settles O17: the stored byte is the number modulo 256, and the rest is the frame of `memWrite`. -/
theorem writeThenRead : Obligations.WriteThenRead := fun s p v =>
  ⟨read_memWrite_ofNat s p v, memoryKeptBut_memWrite s p _, regsKept_memWrite s p _,
    flagsKept_memWrite s p _, s.pc_memWrite p _, s.cyc_memWrite p _, s.fault_memWrite p _⟩

end Sys2Proof.Machine
end

section
/-! PROOFS. The ALU as numbers and as bits (R121 to R128): what each function returns, the rotates as a
permutation of nine bits, and what INC and DEC leave unchanged. -/

namespace Sys2Proof.Machine

open Sys2Proof.Statements

/-! ### The two end bits of a byte -/

theorem getLsbD_seven_eq (m : Byte) : m.getLsbD 7 = decide (128 ≤ m.toNat) := by
  rw [← BitVec.msb_eq_decide m, BitVec.msb_eq_getLsbD_last]

theorem getLsbD_zero_eq (m : Byte) : m.getLsbD 0 = decide (m.toNat % 2 = 1) := by
  rw [← BitVec.testBit_toNat, Nat.testBit_zero]

/-! ### Addition -/

theorem add8_result_toNat (a m : Byte) (cin : Bool) :
    (add8 a m cin).result.toNat = (a.toNat + m.toNat + cin.toNat) % 256 := BitVec.toNat_ofNat ..

theorem add8_overflow (a m : Byte) (cin : Bool) :
    (add8 a m cin).overflow = (a.getLsbD 7 == m.getLsbD 7 &&
      (add8 a m cin).result.getLsbD 7 != a.getLsbD 7) := rfl

/-- R121: "operands share sign and result sign differs". -/
theorem add8_overflow_iff (a m : Byte) (cin : Bool) :
    (add8 a m cin).overflow = true ↔
      a.getLsbD 7 = m.getLsbD 7 ∧ (add8 a m cin).result.getLsbD 7 ≠ a.getLsbD 7 := by
  simp [add8_overflow]

/-- Two bits agree and a third differs from the first exactly when the third differs from both. -/
theorem shared_and_differs_eq_xor (p q r : Bool) :
    (p == q && r != p) = ((p ^^ r) && (q ^^ r)) := by
  revert p q r; decide

/-- R121, the form of the rule with two exclusive ors. -/
theorem add8_overflow_eq_xor (a m : Byte) (cin : Bool) :
    (add8 a m cin).overflow =
      ((a ^^^ (add8 a m cin).result) &&& (m ^^^ (add8 a m cin).result)).getLsbD 7 := by
  rw [add8_overflow, shared_and_differs_eq_xor, BitVec.getLsbD_and, BitVec.getLsbD_xor,
    BitVec.getLsbD_xor]

/-- R121: the overflow says that the sum of the bytes read as signed is outside -128 to 127. -/
theorem add8_overflow_iff_signed (a m : Byte) (cin : Bool) :
    (add8 a m cin).overflow = true ↔
      a.toInt + m.toInt + (cin.toNat : Int) < -128 ∨ 127 < a.toInt + m.toInt + (cin.toNat : Int) := by
  have ha := a.isLt
  have hm := m.isLt
  have hc := cin.toNat_le
  simp only [add8_overflow_iff, getLsbD_seven_eq, add8_result_toNat, ne_eq, decide_eq_decide,
    BitVec.toInt_eq_toNat_cond]
  omega

/-- Settles O19: the result and the carry are those of the unbounded sum, and the three forms of the
overflow agree. -/
theorem addIsBinaryWithCarry : Obligations.AddIsBinaryWithCarry := fun a m cin =>
  ⟨add8_result_toNat a m cin, rfl, add8_overflow_iff a m cin, add8_overflow_eq_xor a m cin,
    add8_overflow_iff_signed a m cin⟩

/-! ### Logic -/

/-- The function of bits that each operation applies (R122). -/
theorem getLsbD_logic8 (op : LogicOp) (a m : Byte) (k : Nat) :
    (logic8 op a m).getLsbD k =
      match op with
      | .and => a.getLsbD k && m.getLsbD k
      | .eor => a.getLsbD k ^^ m.getLsbD k
      | .ior => a.getLsbD k || m.getLsbD k := by
  cases op with
  | and => exact BitVec.getLsbD_and
  | eor => exact BitVec.getLsbD_xor
  | ior => exact BitVec.getLsbD_or

/-- Settles O20: each operation acts on bit k alone; the examples are computed. -/
theorem logicIsBitByBit : Obligations.LogicIsBitByBit :=
  ⟨fun a m k _ => ⟨getLsbD_logic8 .and a m k, getLsbD_logic8 .eor a m k, getLsbD_logic8 .ior a m k⟩,
    by decide, by decide, by decide⟩

/-! ### Shifts and rotates -/

/-- The byte that a rotate to the left puts into the vacated bit 0. -/
theorem getLsbD_carryLow (cin : Bool) (k : Nat) :
    (if cin then 0x01 else 0x00 : Byte).getLsbD k = (cin && decide (k = 0)) := by
  cases cin with
  | false => simp
  | true => exact (BitVec.getLsbD_twoPow (w := 8) 0 k).trans (by simp [eq_comm])

/-- The byte that a rotate to the right puts into the vacated bit 7. -/
theorem getLsbD_carryHigh (cin : Bool) (k : Nat) :
    (if cin then 0x80 else 0x00 : Byte).getLsbD k = (cin && decide (k = 7)) := by
  cases cin with
  | false => simp
  | true => exact (BitVec.getLsbD_twoPow (w := 8) 7 k).trans (by simp [eq_comm])

/-- R125 bit by bit: the old carry enters bit 0 and every bit moves up by one. -/
theorem getLsbD_rol8 (m : Byte) (cin : Bool) {k : Nat} (hk : k < 8) :
    (rol8 m cin).result.getLsbD k = if k = 0 then cin else m.getLsbD (k - 1) := by
  rw [rol8, BitVec.getLsbD_or, getLsbD_carryLow, BitVec.getLsbD_shiftLeft]
  by_cases h : k = 0 <;> simp [h, hk]

/-- R126 bit by bit: the old carry enters bit 7 and every bit moves down by one. -/
theorem getLsbD_ror8 (m : Byte) (cin : Bool) (k : Nat) :
    (ror8 m cin).result.getLsbD k = if k = 7 then cin else m.getLsbD (k + 1) := by
  rw [ror8, BitVec.getLsbD_or, getLsbD_carryHigh, BitVec.getLsbD_ushiftRight]
  by_cases h : k = 7 <;> simp [h, Nat.add_comm]

/-- Bytes with no bit in common are added by or. -/
theorem toNat_or_of_disjoint {m w : Byte} (h : ∀ k, m.getLsbD k = true → w.getLsbD k = false) :
    (m ||| w).toNat = m.toNat + w.toNat := by
  have hand : m &&& w = 0#8 := BitVec.eq_of_getLsbD_eq fun k _ => by
    simpa [BitVec.getLsbD_and] using h k
  rw [← BitVec.add_eq_or_of_and_eq_zero m w hand, BitVec.toNat_add_of_and_eq_zero hand]

theorem shiftLeft_one_toNat (m : Byte) : (m <<< 1).toNat = m.toNat * 2 % 256 := by
  rw [BitVec.toNat_shiftLeft, Nat.shiftLeft_eq, pow_one]

theorem ushiftRight_one_toNat (m : Byte) : (m >>> 1).toNat = m.toNat / 2 := by
  rw [BitVec.toNat_ushiftRight, Nat.shiftRight_eq_div_pow, pow_one]

theorem rol8_result_toNat (m : Byte) (cin : Bool) :
    (rol8 m cin).result.toNat = m.toNat * 2 % 256 + cin.toNat := by
  rw [rol8, toNat_or_of_disjoint, shiftLeft_one_toNat]
  · cases cin <;> rfl
  · intro k
    rw [getLsbD_carryLow, BitVec.getLsbD_shiftLeft]
    by_cases h : k = 0 <;> simp [h]

theorem ror8_result_toNat (m : Byte) (cin : Bool) :
    (ror8 m cin).result.toNat = m.toNat / 2 + cin.toNat * 128 := by
  rw [ror8, toNat_or_of_disjoint, ushiftRight_one_toNat]
  · cases cin <;> rfl
  · intro k
    rw [getLsbD_carryHigh, BitVec.getLsbD_ushiftRight]
    by_cases h : k = 7 <;> simp [h]

/-- The result of each shift as a number (R123 to R126). -/
theorem shift8_result_toNat (kind : ShiftKind) (m : Byte) (cin : Bool) :
    (shift8 kind m cin).result.toNat = shiftedBy kind m cin := by
  cases kind with
  | asl => exact shiftLeft_one_toNat m
  | lsr => exact ushiftRight_one_toNat m
  | rol => exact rol8_result_toNat m cin
  | ror => exact ror8_result_toNat m cin

/-- The bit each shift moves out (R123 to R126). -/
theorem shift8_carry (kind : ShiftKind) (m : Byte) (cin : Bool) :
    (shift8 kind m cin).carry = shiftedOut kind m := by
  cases kind with
  | asl | rol => exact getLsbD_seven_eq m
  | lsr | ror => exact getLsbD_zero_eq m

/-! ### The rotation of nine bits -/

/-- The nine bits that a rotate moves: the byte, and the carry as bit 8. -/
def ShiftResult.bit (r : ShiftResult) (k : Nat) : Bool :=
  if k < 8 then r.result.getLsbD k else r.carry

/-- The nine bits determine the byte and the carry. -/
theorem ShiftResult.eq_of_bit_eq {r q : ShiftResult} (h : ∀ k < 9, r.bit k = q.bit k) : r = q := by
  have hresult : r.result = q.result := BitVec.eq_of_getLsbD_eq fun k hk => by
    simpa [ShiftResult.bit, hk] using h k (by omega)
  have hcarry : r.carry = q.carry := h 8 (by omega)
  cases r; cases q; simp_all

/-- A function that moves every one of the nine bits by d places moves it by n * d in n turns. -/
theorem bit_iterate_rotate {f : ShiftResult → ShiftResult} {d : Nat}
    (hf : ∀ r, ∀ k < 9, (f r).bit k = r.bit ((k + d) % 9)) (n : Nat) (r : ShiftResult) :
    ∀ k < 9, (f^[n] r).bit k = r.bit ((k + n * d) % 9) := by
  induction n with
  | zero => intro k hk; simp [Nat.mod_eq_of_lt hk]
  | succ n ih =>
    intro k hk
    rw [Function.iterate_succ_apply', hf _ k hk, ih _ (Nat.mod_lt _ (by omega)), Nat.mod_add_mod,
      Nat.succ_mul, Nat.add_assoc, Nat.add_comm d]

/-- Nine turns of a rotation of nine bits restore them. -/
theorem iterate_nine_rotate {f : ShiftResult → ShiftResult} {d : Nat}
    (hf : ∀ r, ∀ k < 9, (f r).bit k = r.bit ((k + d) % 9)) (r : ShiftResult) : f^[9] r = r :=
  ShiftResult.eq_of_bit_eq fun k hk => by
    rw [bit_iterate_rotate hf 9 r k hk, Nat.add_mul_mod_self_left, Nat.mod_eq_of_lt hk]

/-- R125: to the left, bit k comes from the bit one below, which is eight above modulo nine. -/
theorem bit_rol8 (r : ShiftResult) (k : Nat) (hk : k < 9) :
    (rol8 r.result r.carry).bit k = r.bit ((k + 8) % 9) := by
  obtain rfl | hlow | rfl : k = 0 ∨ (0 < k ∧ k < 8) ∨ k = 8 := by omega
  · exact getLsbD_rol8 r.result r.carry (by omega)
  · have hsource : (k + 8) % 9 = k - 1 := by omega
    rw [hsource, ShiftResult.bit, if_pos hlow.2, getLsbD_rol8 _ _ hlow.2, if_neg (by omega),
      ShiftResult.bit, if_pos (by omega)]
  · rfl

/-- R126: to the right, bit k comes from the bit one above. -/
theorem bit_ror8 (r : ShiftResult) (k : Nat) (hk : k < 9) :
    (ror8 r.result r.carry).bit k = r.bit ((k + 1) % 9) := by
  obtain hlow | rfl | rfl : k < 7 ∨ k = 7 ∨ k = 8 := by omega
  · rw [Nat.mod_eq_of_lt (by omega), ShiftResult.bit, if_pos (by omega),
      getLsbD_ror8, if_neg (by omega), ShiftResult.bit, if_pos (by omega)]
  · exact getLsbD_ror8 r.result r.carry 7
  · rfl

/-- Settles O21: the results and outgoing bits as numbers, the vacated bits, and nine turns of a
rotation of nine bits. -/
theorem shiftsAndRotatesAreArithmetic : Obligations.ShiftsAndRotatesAreArithmetic := by
  refine ⟨fun m cin kind => ⟨shift8_result_toNat kind m cin, shift8_carry kind m cin, ?lsr, ?asl,
    getLsbD_ror8 m cin 7, getLsbD_rol8 m cin (by omega)⟩,
    fun m cin => ⟨iterate_nine_rotate bit_rol8 _, iterate_nine_rotate bit_ror8 _⟩⟩
  case lsr => simp [shift8, lsr8]
  case asl => simp [shift8, asl8]

/-! ### Increment, decrement and BitTest -/

/-- R127: Inc8 and Dec8 add 1 and -1 modulo 256. -/
theorem incDec8_inc_toNat (m : Byte) :
    ((incDec8 .inc m).toNat : Int) = ((m.toNat : Int) + 1) % 256 := by
  have h : (incDec8 .inc m).toNat = (m.toNat + 1) % 256 := BitVec.toNat_add m 1
  omega

@[inherit_doc incDec8_inc_toNat]
theorem incDec8_dec_toNat (m : Byte) :
    ((incDec8 .dec m).toNat : Int) = ((m.toNat : Int) - 1) % 256 := by
  have h : (incDec8 .dec m).toNat = (255 + m.toNat) % 256 := BitVec.toNat_sub m 1
  omega

theorem bitTest8_zero_iff (a m : Byte) : (bitTest8 a m).zero = true ↔ a &&& m = 0 := beq_iff_eq

/-- An instruction of kind INC/DEC runs one of the two shared operations (R178). -/
theorem Shape.of_incDec {i : Instr} {f : State → State} (h : Shape i f) {dir : Direction}
    {target : IncDecTarget} (hkind : i.descriptor.kind = .incDec dir target) :
    (∃ q o, f = Machine.incDecMemory q o) ∨ ∃ q r, f = Machine.incDecRegister q r := by
  cases h with
  | incDecMemory => exact .inl ⟨_, _, rfl⟩
  | incDecRegister => exact .inr ⟨_, _, rfl⟩
  | _ => simp_all

/-- R127: no INC or DEC instruction writes C or V. -/
theorem incDec_keeps_c_v {i : Instr} {dir : Direction} {target : IncDecTarget} {s t : State}
    (hkind : i.descriptor.kind = .incDec dir target) (hexec : exec i s = .next t) :
    t.c = s.c ∧ t.v = s.v := by
  obtain ⟨f, hshape, hf⟩ := exec_shape i
  obtain rfl : f s = t := Host.Outcome.next.inj ((hf s).symm.trans hexec)
  obtain ⟨_, _, rfl⟩ | ⟨_, _, rfl⟩ := hshape.of_incDec hkind
  · exact ⟨rfl, rfl⟩
  · simp [incDecRegister_eq]

/-- Settles O22: the two sums modulo 256, the bits of BitTest, and the frame of the instructions; the
examples are computed. -/
theorem incDecWrapAndBitTest : Obligations.IncDecWrapAndBitTest :=
  ⟨fun m => ⟨incDec8_inc_toNat m, incDec8_dec_toNat m⟩,
    fun a m => ⟨bitTest8_zero_iff a m, rfl, rfl⟩,
    fun _ _ _ _ _ => incDec_keeps_c_v, by decide, by decide, by decide, by decide⟩

end Sys2Proof.Machine
end

section
/-! PROOFS. `SetNZ` (R120): the two flags it writes and its frame. -/

namespace Sys2Proof.Machine

open Sys2Proof.Statements

theorem isZero_eq_decide (v : Byte) : isZero v = decide (v = 0) := rfl

theorem isNegative_eq_decide (v : Byte) : isNegative v = decide (128 ≤ v.toNat) := getLsbD_seven_eq v

theorem nzFrom_setNZ (s : State) (v : Byte) : NZFrom (s.setNZ v) v :=
  ⟨isZero_eq_decide v, isNegative_eq_decide v⟩

/-- Zero has bit 7 clear, so Z and N are never both 1. -/
theorem not_isZero_and_isNegative (v : Byte) : ¬(isZero v = true ∧ isNegative v = true) := by
  rintro ⟨hz, hn⟩
  obtain rfl : v = 0 := by simpa [isZero] using hz
  exact absurd hn (by decide)

theorem flagsKept_setNZ (s : State) (v : Byte) : FlagsKept s (s.setNZ v) [.z, .n] := by
  intro k hk
  cases k with
  | z | n => simp at hk
  | _ => rfl

theorem regsKept_setNZ (s : State) (v : Byte) : RegsKept s (s.setNZ v) [] :=
  fun r _ => s.reg_setNZ v r

/-- Settles O23: the flags as numbers and the frame of `setNZ`; the examples are computed. -/
theorem setNZFollowsResult : Obligations.SetNZFollowsResult :=
  ⟨fun s v => ⟨nzFrom_setNZ s v, not_isZero_and_isNegative v, flagsKept_setNZ s v,
      regsKept_setNZ s v, rfl, rfl, rfl, rfl⟩,
    fun _ => ⟨rfl, rfl, rfl, rfl, rfl, rfl, rfl, rfl⟩⟩

end Sys2Proof.Machine
end

section
/-! PROOFS. The addressing-mode resolver as numbers (R106 to R111), and the modes against the lengths
and the kinds that R82 and R85 give them. -/

namespace Sys2Proof.Machine

open Sys2Proof.Statements

/-- The length of an instruction follows from its mode (R82). -/
theorem length_of_mode {i : Instr} {m : Mode} (h : i.descriptor.mode = m) : i.length = m.length :=
  h ▸ Laws.EncodedLength.holds i

/-- The index of ABSOLUTE_X and ABSOLUTE_Y added to `{hi, lo}`, modulo 65536 (R110, R111). -/
theorem indexAbsolute_joinBytes_ea_toNat (hi lo index : Byte) :
    (indexAbsolute (joinBytes hi lo) index).ea.toNat =
      (hi.toNat * 256 + lo.toNat + index.toNat) % 65536 := by
  rw [indexAbsolute_ea_toNat, joinBytes_toNat]

/-- Crossed compares the low-byte sum with a byte's range (R110, R111). -/
theorem indexAbsolute_joinBytes_crossed (hi lo index : Byte) :
    (indexAbsolute (joinBytes hi lo) index).crossed = decide (lo.toNat + index.toNat > 255) := by
  rw [indexAbsolute_crossed, ← loByte_toNat, loByte_joinBytes]

/-- Settles O25: both modes are `indexAbsolute`, with X and with Y. -/
theorem absoluteIndexWrapsAndCrosses : Obligations.AbsoluteIndexWrapsAndCrosses :=
  ⟨fun lo hi s =>
    ⟨indexAbsolute_joinBytes_ea_toNat hi lo s.x, indexAbsolute_joinBytes_crossed hi lo s.x,
      indexAbsolute_joinBytes_ea_toNat hi lo s.y, indexAbsolute_joinBytes_crossed hi lo s.y⟩,
    fun _ h => h.elim length_of_mode length_of_mode⟩

/-- R108: of the kinds only LOAD X and STORE X have an entry in ZERO_PAGE_Y. -/
theorem kind_of_zeroPageY_allowed {kind : Kind} (h : .zeroPageY ∈ kind.allowedModes) :
    kind = .load .x ∨ kind = .store .x := by
  cases kind with
  | load r | store r => cases r <;> simp_all [Kind.allowedModes]
  | incDec dir target => cases target <;> simp [Kind.allowedModes] at h
  | _ => simp [Kind.allowedModes] at h

/-- The mode of an instruction is one that its kind allows (R82, R85). -/
theorem mode_mem_allowedModes (i : Instr) : i.descriptor.mode ∈ i.descriptor.kind.allowedModes :=
  of_decide_eq_true (every_instr_wellFormed i)

/-- Settles O24: the index is added by `indexZeroPage`, modulo 256; the lengths follow from the modes,
and the kinds of ZERO_PAGE_Y from the table of modes. -/
theorem zeroPageIndexStaysInPageZero : Obligations.ZeroPageIndexStaysInPageZero :=
  ⟨fun p s => ⟨setWidth16_toNat p, indexZeroPage_ea_toNat p s.x, indexZeroPage_ea_toNat p s.y,
      rfl, indexZeroPage_crossed p s.x, indexZeroPage_crossed p s.y⟩,
    fun _ h => h.elim length_of_mode (·.elim length_of_mode length_of_mode),
    fun i h => kind_of_zeroPageY_allowed (h ▸ mode_mem_allowedModes i)⟩

end Sys2Proof.Machine
end

section
/-! PROOFS. `Fetch8` (R100): the byte it reads, where it leaves pc, and the instruction it builds. -/

namespace Sys2Proof.Machine

theorem fetch8_fst (s : State) : s.fetch8.1 = s.mem.read s.pc := rfl

theorem fetch8_pc_toNat (s : State) : s.fetch8.2.pc.toNat = (s.pc.toNat + 1) % 65536 :=
  BitVec.toNat_add s.pc 1

/-- The bytes of an instruction are the three that `Fetch8` gives one after the other, the first
selecting the entry (R100, R101). -/
theorem fetchInstr_eq_fetch8 (s : State) :
    s.fetchInstr = (lookup s.fetch8.1).map fun form =>
      form.build s.fetch8.2.fetch8.1 s.fetch8.2.fetch8.2.fetch8.1 := by
  have hthird : s.pc + 1 + 1 = s.pc + 2 := BitVec.add_assoc ..
  simp only [State.fetchInstr, fetch8_fst, State.mem_fetch8, State.pc_fetch8, hthird]

/-- Settles O26: only pc moves; in the example FFFF + 1 is 0000 modulo 65536. -/
theorem fetchReadsAndAdvances : Obligations.FetchReadsAndAdvances := by
  refine ⟨fun s => ⟨fetch8_fst s, fetch8_pc_toNat s, rfl, fetchInstr_eq_fetch8 s⟩,
    fun s hpc hread => ⟨?byte, ?pc⟩⟩
  case byte => rw [fetch8_fst, hpc, hread]
  case pc => rw [State.pc_fetch8, hpc]; decide

end Sys2Proof.Machine
end

section
/-! PROOFS. An operand in memory as the numbers of the rules give it (R106 to R112, R233): its length, its
effective address and its cost. -/

namespace Sys2Proof.Machine

open Sys2Proof.Statements

/-- An instruction of a row of R233 with this memory operand has this length, accesses this effective
address and costs this much. -/
structure Accesses (cls : CostClass) (o : MemOperand) (length : Nat) (ea : State → Addr)
    (k : State → Int) : Prop where
  length_eq : o.mode.length = length
  ea_eq : ∀ s, (resolveAddr o s).ea = ea s
  cost_eq : ∀ s, (cost cls o.mode (resolveAddr o s).crossed : Int) = k s

theorem indexZeroPage_ea (zp index : Byte) :
    (indexZeroPage zp index).ea = BitVec.ofNat 16 ((zp.toNat + index.toNat) % 256) := by
  rw [← indexZeroPage_ea_toNat, BitVec.ofNat_toNat, BitVec.setWidth_eq]

theorem indexAbsolute_ea (base : Addr) (index : Byte) :
    (indexAbsolute base index).ea = BitVec.ofNat 16 ((base.toNat + index.toNat) % 65536) := by
  rw [← indexAbsolute_ea_toNat, BitVec.ofNat_toNat, BitVec.setWidth_eq]

/-- The carry out of the low-byte addition is a change of the high byte, the wrap at 65536 included
(R12 "Page crossing"). -/
theorem indexAbsolute_crossed_iff (base : Addr) (index : Byte) :
    (indexAbsolute base index).crossed = true ↔
      (indexAbsolute base index).ea.toNat / 256 ≠ base.toNat / 256 := by
  have hbase := base.isLt
  have hindex := index.isLt
  rw [indexAbsolute_crossed, indexAbsolute_ea_toNat, decide_eq_true_iff]
  omega

section
variable {cls : CostClass} {k : Int}

theorem cost_of_not_crossed {m : Mode} (hk : (baseCost cls m : Int) = k) :
    (cost cls m false : Int) = k := by
  rw [cost_not_crossed, hk]

/-- A row with the page-cross extra is charged it exactly where the high byte changes (R233 `+p`). -/
theorem cost_indexAbsolute {m : Mode} (hk : (baseCost cls m : Int) = k)
    (hcls : crossCharged cls = true) {base : Addr} {index : Byte} {ea : State → Addr} {s : State}
    (hea : (indexAbsolute base index).ea = ea s) :
    (cost cls m (indexAbsolute base index).crossed : Int) = crossing k base ea s := by
  have hcrossed := hea ▸ indexAbsolute_crossed_iff base index
  unfold crossing
  split
  case isTrue hpage =>
    rw [Bool.eq_false_iff.mpr fun h => hcrossed.mp h hpage, cost_of_not_crossed hk]
  case isFalse hpage =>
    simp [hcrossed.mpr hpage, cost, hcls, ← hk]

theorem accesses_zeroPage (p : Byte) (hk : (baseCost cls .zeroPage : Int) = k) :
    Accesses cls (.zeroPage p) 2 (zpEa p) (fixed k) :=
  ⟨rfl, fun _ => (BitVec.ofNat_toNat 16 p).symm, fun _ => cost_of_not_crossed hk⟩

theorem accesses_zeroPageX (p : Byte) (hk : (baseCost cls .zeroPageX : Int) = k) :
    Accesses cls (.zeroPageX p) 2 (zpxEa p) (fixed k) :=
  ⟨rfl, fun s => indexZeroPage_ea p s.x, fun _ => cost_of_not_crossed hk⟩

theorem accesses_zeroPageY (p : Byte) (hk : (baseCost cls .zeroPageY : Int) = k) :
    Accesses cls (.zeroPageY p) 2 (zpyEa p) (fixed k) :=
  ⟨rfl, fun s => indexZeroPage_ea p s.y, fun _ => cost_of_not_crossed hk⟩

theorem accesses_absolute (base : Addr) (hk : (baseCost cls .absolute : Int) = k) :
    Accesses cls (.absolute base) 3 (absEa base) (fixed k) :=
  ⟨rfl, fun _ => rfl, fun _ => cost_of_not_crossed hk⟩

theorem accesses_absoluteX (base : Addr) (hk : (baseCost cls .absoluteX : Int) = k)
    (hcls : crossCharged cls = true) :
    Accesses cls (.absoluteX base) 3 (abxEa base) (crossing k base (abxEa base)) :=
  ⟨rfl, fun s => indexAbsolute_ea base s.x,
    fun s => cost_indexAbsolute hk hcls (indexAbsolute_ea base s.x)⟩

theorem accesses_absoluteY (base : Addr) (hk : (baseCost cls .absoluteY : Int) = k)
    (hcls : crossCharged cls = true) :
    Accesses cls (.absoluteY base) 3 (abyEa base) (crossing k base (abyEa base)) :=
  ⟨rfl, fun s => indexAbsolute_ea base s.y,
    fun s => cost_indexAbsolute hk hcls (indexAbsolute_ea base s.y)⟩

end

end Sys2Proof.Machine
end

section
/-! PROOFS. The LOAD family (R137): every form is `load` of its operand, which ends by writing one
register and setting Z and N from it. -/

namespace Sys2Proof.Machine

open Sys2Proof.Statements

theorem pc_advance_toNat (s : State) (length : Nat) :
    (s.advance length).pc.toNat = (s.pc.toNat + length) % 65536 := by
  rw [State.pc_advance, BitVec.toNat_add, BitVec.toNat_ofNat, Nat.add_mod_mod]

/-- The common end of LOAD, TRANSFER, LOGICAL and the INC and DEC of a register: pc is advanced, one
register written, Z and N set from it, the cost charged (R137, R139, R159, R178). -/
theorem runs_setReg_setNZ {i : Instr} {s : State} {length : Nat} {r : Reg} {w : Byte} {k : Nat}
    (hexec : exec i s = .next ((((s.advance length).setReg r w).setNZ w).charge k)) :
    Runs i s length k [r] [.z, .n] fun t => t.reg r = w ∧ NZFrom t w ∧ MemoryKept s t := by
  refine ⟨_, hexec, ?pc, by simp, by simp, ?regs, ?flags, by simp, ?nz, ?mem⟩
  case pc => simp only [State.pc_charge, State.pc_setNZ, State.pc_setReg, pc_advance_toNat]
  case regs =>
    intro q hq
    have hne : q ≠ r := by simpa using hq
    simp [State.reg_setReg, hne]
  case flags =>
    intro q hq
    rw [State.flag_charge, flagsKept_setNZ _ _ q hq, State.flag_setReg, State.flag_advance]
  case nz => exact nzFrom_setNZ ((s.advance length).setReg r w) w
  case mem => intro p; simp

section
variable {r : Reg} {i : Instr}

theorem loads_immediate {v : Byte} (hexec : ∀ s, exec i s = .next (load r (.immediate v) s)) :
    Loads r i 2 (immediate v) (fixed 2) :=
  fun s => runs_setReg_setNZ (hexec s)

theorem loads_memory {o : MemOperand} {length : Nat} {ea : State → Addr} {k : State → Int}
    (ho : Accesses .load o length ea k) (hexec : ∀ s, exec i s = .next (load r (.memory o) s)) :
    Loads r i length (byteAt ea) k := by
  intro s
  rw [byteAt, ← ho.ea_eq, ← ho.cost_eq, ← ho.length_eq]
  exact runs_setReg_setNZ (hexec s)

end

/-- Settles O27: each form is `load` of an operand whose value, length and cost are those of its mode. -/
theorem loadsSetRegisterAndFlags : Obligations.LoadsSetRegisterAndFlags :=
  ⟨fun _ => loads_immediate fun _ => rfl,
    fun p => loads_memory (accesses_zeroPage p rfl) fun _ => rfl,
    fun p => loads_memory (accesses_zeroPageX p rfl) fun _ => rfl,
    fun p => loads_memory (accesses_absolute p rfl) fun _ => rfl,
    fun p => loads_memory (accesses_absoluteX p rfl rfl) fun _ => rfl,
    fun p => loads_memory (accesses_absoluteY p rfl rfl) fun _ => rfl,
    fun _ => loads_immediate fun _ => rfl,
    fun p => loads_memory (accesses_zeroPage p rfl) fun _ => rfl,
    fun p => loads_memory (accesses_zeroPageY p rfl) fun _ => rfl,
    fun p => loads_memory (accesses_absolute p rfl) fun _ => rfl,
    fun p => loads_memory (accesses_absoluteY p rfl rfl) fun _ => rfl,
    fun _ => loads_immediate fun _ => rfl,
    fun p => loads_memory (accesses_zeroPage p rfl) fun _ => rfl,
    fun p => loads_memory (accesses_zeroPageX p rfl) fun _ => rfl,
    fun p => loads_memory (accesses_absolute p rfl) fun _ => rfl,
    fun p => loads_memory (accesses_absoluteX p rfl rfl) fun _ => rfl⟩

end Sys2Proof.Machine
end

section
/-! PROOFS. The one exception (R250): a step raises it when the fetch finds no entry, no instruction
touches the latch, and a latched state ends the loop. -/

namespace Sys2Proof.Machine

/-- A byte has no descriptor exactly when it has no table entry (R101, R86). -/
theorem descriptorOf_eq_none {op : Byte} : descriptorOf op = none ↔ lookup op = none :=
  Option.map_eq_none_iff

/-- No instruction rule raises the exception (R250). -/
theorem Shape.keeps_fault {i : Instr} {f : State → State} (h : Shape i f) (s : State) :
    (f s).fault = s.fault := by
  cases h with
  | load r o => rw [load_eq, State.fault_setReg]
  | store r o => rw [store_eq]
  | transfer src dst => rw [transfer_eq, State.fault_setReg]
  | adc o => rw [adc_eq]
  | logical op o => rw [logical_eq]
  | bitTest o => rw [bitTest_eq]
  | incDecMemory dir o => rw [incDecMemory_eq]
  | incDecRegister dir r => rw [incDecRegister_eq, State.fault_setReg]
  | shiftAccumulator kind => rw [shift_accumulator_eq]
  | shiftMemory kind o => rw [shift_memory_eq]
  | setFlag k | clearFlag k => rw [writeFlag_eq, State.fault_setFlag]
  | branch k takenWhen rel8 =>
    by_cases ht : s.flag k = takenWhen
    · rw [branch_taken_eq k takenWhen rel8 s ht]
    · rw [branch_not_taken_eq k takenWhen rel8 s ht]
  | nop => rw [nop_eq]

theorem exec_keeps_fault (i : Instr) (s : State) : ∃ t, exec i s = .next t ∧ t.fault = s.fault := by
  obtain ⟨f, hshape, hf⟩ := exec_shape i
  exact ⟨f s, hf s, hshape.keeps_fault s⟩

/-- With the latch clear a step raises the exception or runs an instruction, which leaves the latch as
it was. -/
theorem step_sets_fault_iff (s : State) (h : s.fault = none) :
    ∃ t, step s = .next t ∧ (t.fault ≠ none ↔ descriptorOf (s.mem.read s.pc) = none) := by
  rw [descriptorOf_eq_none, ← fetchInstr_none]
  cases hi : s.fetchInstr with
  | none => exact ⟨s.raiseUnknownOpcode, step_raises s h hi, by simp⟩
  | some i =>
    obtain ⟨t, ht, hkept⟩ := exec_keeps_fault i s
    exact ⟨t, (step_exec s i h hi).trans ht, by simp [hkept, h]⟩

/-- A latched state has no step, so the loop ends in it whatever budget and fuel are left (R253). -/
theorem runLoop_latched (fuel : Nat) (s : State) (h : s.fault ≠ none) : runLoop fuel s = s := by
  obtain ⟨e, he⟩ := Option.ne_none_iff_exists'.mp h
  cases fuel with
  | zero => rfl
  | succ fuel => simp [runLoop, step_latched s e he]

/-- Settles O7: a fetch that finds no entry is the one case of a step that touches the latch. -/
theorem unknownOpcodeIsTheOnlyException : Obligations.UnknownOpcodeIsTheOnlyException :=
  ⟨step_sets_fault_iff, exec_keeps_fault, runLoop_latched⟩

end Sys2Proof.Machine
end

section
/-! PROOFS. The reset (R280, R282): the fields of the state it answers, and the command as a constant
function of the state before. -/

namespace Sys2Proof.Machine

/-- All flags are cleared, whatever the two OPEN constants are (R280). -/
@[simp] theorem State.flag_resetWith (sp : Byte) (pc : Addr) (k : Flag) :
    (State.resetWith sp pc).flag k = false := by
  cases k <;> rfl

/-- Memory is zeroed: no address is listed, so every one reads as the reset contents (R44, R280). -/
theorem State.read_mem_resetWith (sp : Byte) (pc p : Addr) :
    (State.resetWith sp pc).mem.read p = 0 := by
  rw [State.mem_resetWith, Memory.read_nil]

/-- The command reads nothing of the state before, no vector in memory either (R280). -/
theorem runCommand_reset (s : State) :
    runCommand .reset s = (State.resetWith Config.resetSP Config.resetPC, .done) := rfl

/-- Settles O48: the fields of `State.resetWith`, each by its own lemma. -/
theorem resetStateIsDocumented : Obligations.ResetStateIsDocumented := by
  refine ⟨fun sp pc => ?_, runCommand_reset⟩
  have hflags := State.flag_resetWith sp pc
  have hmem := State.read_mem_resetWith sp pc
  exact ⟨State.a_resetWith sp pc, State.x_resetWith sp pc, State.y_resetWith sp pc,
    State.sp_resetWith sp pc, State.pc_resetWith sp pc, hflags, hmem,
    State.fault_resetWith sp pc, State.cyc_resetWith sp pc⟩

/-- Settles O49: the command answers one constant state, whose latch is clear. -/
theorem resetLeavesNoResidue : Obligations.ResetLeavesNoResidue := by
  intro s s'
  refine ⟨?sameFromBoth, ?idempotent, ?latchClear⟩
  case sameFromBoth => rw [runCommand_reset s, runCommand_reset s']
  case idempotent => rw [runCommand_reset (runCommand .reset s).1, runCommand_reset s]
  case latchClear => rw [runCommand_reset s, State.fault_resetWith]

end Sys2Proof.Machine
end

section
/-! PROOFS. The encoding (R81 to R86): a decoder and an encoder that undo each other, and the bytes without
a table entry. -/

namespace Sys2Proof

open Sys2Proof.Statements Sys2Proof.Machine

/-! ### Decoding, by the entry of the opcode byte -/

theorem decode_of_noEntry {op : Byte} (h : lookup op = none) (rest : List Byte) :
    decode (op :: rest) = .noEntry op := by simp [decode, h]

theorem decode_of_entry {op : Byte} {form : Form} (h : lookup op = some form) (rest : List Byte) :
    decode (op :: rest) =
      if rest.length < form.operandBytes then .truncated
      else .instr (form.build (rest.getD 0 0) (rest.getD 1 0)) (rest.drop form.operandBytes) := by
  simp [decode, h]

/-- R86: the rejection by name says that the opcode byte has no entry. -/
theorem decode_eq_noEntry_iff (op : Byte) (rest : List Byte) :
    decode (op :: rest) = .noEntry op ↔ lookup op = none := by
  refine ⟨fun h => ?_, fun h => decode_of_noEntry h rest⟩
  cases hform : lookup op with
  | none => rfl
  | some form =>
    rw [decode_of_entry hform] at h
    split at h <;> cases h

theorem decode_of_f1 {op : Byte} {i : Instr} (h : lookup op = some (.f1 i)) (rest : List Byte) :
    decode ([op] ++ rest) = .instr i rest := by
  simp [decode_of_entry h, Form.operandBytes, Form.build]

theorem decode_of_f2 {op : Byte} {mk : Byte → Instr} (h : lookup op = some (.f2 mk)) (v : Byte)
    (rest : List Byte) : decode ([op, v] ++ rest) = .instr (mk v) rest := by
  simp [decode_of_entry h, Form.operandBytes, Form.build]

theorem decode_of_f3 {op : Byte} {mk : Addr → Instr} (h : lookup op = some (.f3 mk)) (a : Addr)
    (rest : List Byte) : decode (op :: addrBytes a ++ rest) = .instr (mk a) rest := by
  simp [decode_of_entry h, Form.operandBytes, Form.build, addrBytes]

/-- Each instruction has one of the three formats, with the entry of its opcode byte. -/
theorem decode_encode (i : Instr) (rest : List Byte) :
    decode (encode i ++ rest) = .instr i rest := by
  cases i with
  | tax | tay | txa | tya | tsx | txs | inx | iny | dex | dey | aslAcc | lsrAcc | rolAcc | rorAcc
  | clc | sec | cli | sei | clv | cld | sed | nop => exact decode_of_f1 rfl rest
  | ldaImm v | ldaZp v | ldaZpx v | ldxImm v | ldxZp v | ldxZpy v | ldyImm v | ldyZp v | ldyZpx v
  | staZp v | staZpx v | stxZp v | stxZpy v | styZp v | styZpx v | adcImm v | adcZp v | adcZpx v
  | andImm v | andZp v | andZpx v | eorImm v | eorZp v | eorZpx v | oraImm v | oraZp v | oraZpx v
  | bitZp v | incZp v | incZpx v | decZp v | decZpx v | aslZp v | aslZpx v | lsrZp v | lsrZpx v
  | rolZp v | rolZpx v | rorZp v | rorZpx v | bpl v | bmi v | bvc v | bvs v | bcc v | bcs v
  | bne v | beq v => exact decode_of_f2 rfl v rest
  | ldaAbs a | ldaAbx a | ldaAby a | ldxAbs a | ldxAby a | ldyAbs a | ldyAbx a | staAbs a
  | staAbx a | staAby a | stxAbs a | styAbs a | adcAbs a | adcAbx a | adcAby a | andAbs a
  | andAbx a | andAby a | eorAbs a | eorAbx a | eorAby a | oraAbs a | oraAbx a | oraAby a
  | bitAbs a | incAbs a | incAbx a | decAbs a | decAbx a | aslAbs a | aslAbx a | lsrAbs a
  | lsrAbx a | rolAbs a | rolAbx a | rorAbs a | rorAbx a => exact decode_of_f3 rfl a rest

/-- Settles O2: each instruction has one of the three formats. -/
theorem decodeOfEncodeIsIdentity : Obligations.DecodeOfEncodeIsIdentity := decode_encode

/-- Settles O1: the words are encodings; the descriptors are looked up in the table. -/
theorem sampleWordsDecode : Obligations.SampleWordsDecode :=
  ⟨decode_encode (.ldaImm 0x01) [0x77], decode_encode (.ldaZpx 0xF0) [0x77],
    decode_encode (.ldaAbx 0x01FF) [0x77], decode_encode (.staAbs 0x1234) [0x77],
    decode_encode .tax [0x77], decode_encode (.adcImm 0x50) [0x77],
    decode_encode (.andImm 0x3C) [0x77], decode_encode (.bitZp 0x40) [0x77],
    decode_encode (.incZpx 0x10) [0x77], decode_encode .dex [0x77],
    decode_encode .rorAcc [0x77], decode_encode .clv [0x77], decode_encode (.bne 0xFE) [0x77],
    decode_encode .nop [0x77], rfl, rfl, rfl, rfl, rfl⟩

/-! ### Encoding, by the rows of the table -/

/-- What a form builds is encoded as this opcode byte and its operand bytes (R81). -/
def Form.EncodesAs (op : Byte) : Form → Prop
  | .f1 i => encode i = [op]
  | .f2 mk => ∀ v, encode (mk v) = [op, v]
  | .f3 mk => ∀ a, encode (mk a) = op :: addrBytes a

/-- R85, row by row: the encoder has the opcode byte and the format of the table. -/
theorem encodesAs_of_mem_opTable : ∀ row ∈ opTable, row.form.EncodesAs row.opcode := by
  rw [← List.forall_iff_forall_mem]
  and_intros
  all_goals
    simp only [Form.EncodesAs]
    intros
    rfl

theorem encodesAs_of_lookup {op : Byte} {form : Form} (h : lookup op = some form) :
    form.EncodesAs op := by
  obtain ⟨row, hfind, rfl⟩ := Option.map_eq_some_iff.mp h
  obtain rfl : row.opcode = op := by simpa using List.find?_some hfind
  exact encodesAs_of_mem_opTable row (List.mem_of_find?_eq_some hfind)

/-- The bytes after the opcode byte are those that the form takes, and the other bytes follow. -/
theorem encode_build_append {op : Byte} {form : Form} {rest : List Byte} (h : form.EncodesAs op)
    (hlen : form.operandBytes ≤ rest.length) :
    encode (form.build (rest.getD 0 0) (rest.getD 1 0)) ++ rest.drop form.operandBytes =
      op :: rest := by
  match form, rest with
  | .f1 i, rest => exact congrArg (· ++ rest) h
  | .f2 mk, v :: rest => exact congrArg (· ++ rest) (h v)
  | .f3 mk, lo :: hi :: rest =>
    refine (congrArg (· ++ rest) (h (joinBytes hi lo))).trans ?_
    simp [addrBytes]
  | .f2 mk, [] | .f3 mk, [] | .f3 mk, [_] => simp [Form.operandBytes] at hlen

theorem encode_of_decode {bytes rest : List Byte} {i : Instr} (h : decode bytes = .instr i rest) :
    bytes = encode i ++ rest := by
  match bytes with
  | [] => cases h
  | op :: tail =>
    cases hform : lookup op with
    | none => rw [decode_of_noEntry hform] at h; cases h
    | some form =>
      rw [decode_of_entry hform] at h
      by_cases hlen : tail.length < form.operandBytes
      · rw [if_pos hlen] at h; cases h
      · rw [if_neg hlen] at h
        cases h
        exact (encode_build_append (encodesAs_of_lookup hform) (not_lt.mp hlen)).symm

/-- Settles O3: a list that decodes has an entry, whose row encodes what it builds. -/
theorem encodeOfDecodeIsIdentity : Obligations.EncodeOfDecodeIsIdentity :=
  fun _ _ _ => encode_of_decode

/-- The list that decodes to an instruction is its encoding and what follows. -/
theorem decode_eq_instr_iff {bytes rest : List Byte} {i : Instr} :
    decode bytes = .instr i rest ↔ bytes = encode i ++ rest :=
  ⟨encode_of_decode, fun h => h ▸ decode_encode i rest⟩

/-! ### The bytes without an entry -/

/-- A list of bytes as the number that has bit v set for each byte v of the list. -/
def maskOf (l : List Byte) : Nat := l.foldr (fun v mask => 2 ^ v.toNat ||| mask) 0

theorem maskOf_cons (v : Byte) (l : List Byte) : maskOf (v :: l) = 2 ^ v.toNat ||| maskOf l := rfl

theorem maskOf_append (l l' : List Byte) : maskOf (l ++ l') = maskOf l ||| maskOf l' := by
  induction l with
  | nil => simp [maskOf]
  | cons v l ih => rw [List.cons_append, maskOf_cons, maskOf_cons, ih, Nat.or_assoc]

theorem testBit_maskOf (l : List Byte) (op : Byte) :
    (maskOf l).testBit op.toNat = true ↔ op ∈ l := by
  induction l with
  | nil => simp [maskOf]
  | cons v l ih =>
    rw [maskOf_cons, Nat.testBit_or, Bool.or_eq_true, ih, Nat.testBit_two_pow, decide_eq_true_iff,
      BitVec.toNat_inj, List.mem_cons, eq_comm]

/-- The opcode bytes of R85. -/
def presentBytes : List Byte := opTable.map OpRow.opcode

theorem lookup_eq_none_iff (op : Byte) : lookup op = none ↔ op ∉ presentBytes := by
  simp [lookup, presentBytes, List.find?_eq_none]

/-- R85 and R86 together name every byte, for as numbers they set all 256 bits. -/
theorem mem_absentBytes_or_presentBytes (op : Byte) : op ∈ absentBytes ++ presentBytes := by
  have hmask : maskOf (absentBytes ++ presentBytes) = 2 ^ 256 - 1 := by
    simp only [absentBytes, presentBytes, opTable, List.map_append, maskOf_append]
    decide
  rw [← testBit_maskOf, hmask, Nat.testBit_two_pow_sub_one, decide_eq_true_iff]
  exact op.isLt

theorem absentBytes_length : absentBytes.length = 149 := by rfl

/-- A list of 256 bytes that names every byte names none twice. -/
theorem nodup_absentBytes_append_presentBytes : (absentBytes ++ presentBytes).Nodup := by
  have hall : (absentBytes ++ presentBytes).toFinset = Finset.univ :=
    Finset.eq_univ_of_forall fun op => List.mem_toFinset.mpr (mem_absentBytes_or_presentBytes op)
  have hlength : (absentBytes ++ presentBytes).length = 256 := by
    rw [List.length_append, absentBytes_length, presentBytes, List.length_map, opTable_length]
  have hcard : (absentBytes ++ presentBytes).toFinset.card =
      (absentBytes ++ presentBytes).length := by
    rw [hall, hlength, Finset.card_univ, ← FinEnum.card_eq_fintypeCard, FinEnum.card_bitVec]
    rfl
  exact Multiset.toFinset_card_eq_card_iff_nodup.mp hcard

theorem lookup_eq_none_iff_mem_absentBytes (op : Byte) : lookup op = none ↔ op ∈ absentBytes := by
  rw [lookup_eq_none_iff]
  refine ⟨fun h => (List.mem_append.mp (mem_absentBytes_or_presentBytes op)).resolve_right h,
    fun h h' => List.disjoint_of_nodup_append nodup_absentBytes_append_presentBytes h h'⟩

/-- Settles O4: the 107 opcode bytes and the 149 absent ones are all 256, so none is named twice. -/
theorem absentBytesHaveNoEntry : Obligations.AbsentBytesHaveNoEntry := by
  refine ⟨absentBytes_length, nodup_absentBytes_append_presentBytes.of_append_left, fun op => ?_⟩
  rw [← lookup_eq_none_iff_mem_absentBytes]
  exact ⟨descriptorOf_eq_none, decode_eq_noEntry_iff op⟩

end Sys2Proof
end

section
/-! PROOFS. What `exec` and `step` answer, turned round: the one shape of the instruction, the two kinds of next
state (R232, R250). -/

namespace Sys2Proof.Machine

theorem shape_of_exec {i : Instr} {s t : State} (h : exec i s = .next t) :
    ∃ f, Shape i f ∧ t = f s := by
  obtain ⟨f, hshape, hf⟩ := exec_shape i
  exact ⟨f, hshape, Host.Outcome.next.inj (h.symm.trans (hf s))⟩

theorem step_of_fetchInstr {s : State} {i : Instr} (hfault : s.fault = none)
    (hi : s.fetchInstr = some i) : ∃ f, Shape i f ∧ step s = .next (f s) := by
  obtain ⟨f, hshape, hf⟩ := exec_shape i
  exact ⟨f, hshape, (step_exec s i hfault hi).trans (hf s)⟩

/-- A step that answers a next state starts with the latch clear, and takes the exception or completes the
instruction at pc. -/
theorem step_inversion {s t : State} (h : step s = .next t) :
    s.fault = none ∧ ((s.fetchInstr = none ∧ t = s.raiseUnknownOpcode) ∨
      ∃ i f, s.fetchInstr = some i ∧ Shape i f ∧ t = f s) := by
  obtain ⟨e, _, hstep⟩ | ⟨hfault, hi, hstep⟩ | ⟨i, hfault, hi, hstep⟩ := step_cases s <;>
    rw [hstep] at h
  · cases h
  · exact ⟨hfault, .inl ⟨hi, (Host.Outcome.next.inj h).symm⟩⟩
  · obtain ⟨f, hshape, rfl⟩ := shape_of_exec h
    exact ⟨hfault, .inr ⟨i, f, hi, hshape, rfl⟩⟩

end Sys2Proof.Machine
end

section
/-! PROOFS. What an instruction does to memory (R55): one byte written where its operand is, or none; and
the same whatever the bytes are that it does not read. -/

namespace Sys2Proof.Machine

open Sys2Proof.Statements

@[simp] theorem resolveAddr_with_mem (o : MemOperand) (s : State) (m : Memory) :
    resolveAddr o { s with mem := m } = resolveAddr o s := by cases o <;> rfl

@[simp] theorem operandCrossed_with_mem (o : ValueOperand) (s : State) (m : Memory) :
    operandCrossed o { s with mem := m } = operandCrossed o s := by
  cases o with
  | immediate v => rfl
  | memory o => simp [operandCrossed]

/-- A memory that holds at the data address of an instruction, where it reads one, the byte that the state
holds there. -/
def SameDataRead (i : Instr) (s : State) (m : Memory) : Prop :=
  readsMemory i.descriptor = true → ∀ o, memOperand i = some o →
    m.read (resolveAddr o s).ea = s.mem.read (resolveAddr o s).ea

/-- The families whose operand may be IMMEDIATE read memory in every other mode (R55). -/
theorem readsMemory_of_memory (o : MemOperand) :
    (∀ r, readsMemory ⟨.load r, o.mode⟩ = true) ∧ readsMemory ⟨.adc, o.mode⟩ = true ∧
      ∀ op, readsMemory ⟨.logical op, o.mode⟩ = true := by
  cases o <;> simp [readsMemory, MemOperand.mode]

/-- A shift of a byte in memory reads and writes it (R55). -/
theorem shift_readsMemory_storesToMemory (kind : ShiftKind) (o : MemOperand) :
    readsMemory ⟨.shift kind, o.mode⟩ = true ∧ storesToMemory ⟨.shift kind, o.mode⟩ = true := by
  cases o <;> simp [readsMemory, storesToMemory, MemOperand.mode]

theorem SameDataRead.operandValue_eq {i : Instr} {s : State} {m : Memory} {o : ValueOperand}
    (h : SameDataRead i s m) (ho : Reads i o)
    (hreads : ∀ q, o = .memory q → readsMemory i.descriptor = true) :
    operandValue o { s with mem := m } = operandValue o s := by
  cases o with
  | immediate v => rfl
  | memory o => simpa [operandValue] using h (hreads o rfl) o ho

theorem State.setReg_with_mem (s : State) (r : Reg) (v : Byte) (m : Memory) :
    { s with mem := m }.setReg r v = { s.setReg r v with mem := m } := by cases r <;> rfl

theorem State.reg_with_mem (s : State) (r : Reg) (m : Memory) :
    { s with mem := m }.reg r = s.reg r := by cases r <;> rfl

theorem State.setFlag_with_mem (s : State) (k : Flag) (w : Bool) (m : Memory) :
    { s with mem := m }.setFlag k w = { s.setFlag k w with mem := m } := by cases k <;> rfl

theorem State.flag_with_mem (s : State) (k : Flag) (m : Memory) :
    { s with mem := m }.flag k = s.flag k := by cases k <;> rfl

/-- The operation f touches memory as R55 lets the instruction: from a memory that holds the same byte at
its data address, it leaves that memory as it is, or writes the same one byte there; all else comes out
the same. -/
inductive MemoryEffect (i : Instr) (f : State → State) (s : State) (m : Memory) : Prop
  | keeps (hstores : storesToMemory i.descriptor = false)
      (hrun : f { s with mem := m } = { f s with mem := m })
  | writes (hstores : storesToMemory i.descriptor = true) (o : MemOperand)
      (ho : memOperand i = some o) (w : Byte)
      (hmem : (f s).mem = s.mem.write (resolveAddr o s).ea w)
      (hrun : f { s with mem := m } = { f s with mem := m.write (resolveAddr o s).ea w })

theorem Shape.memoryEffect {i : Instr} {f : State → State} (h : Shape i f) (s : State)
    (m : Memory) (hread : SameDataRead i s m) : MemoryEffect i f s m := by
  cases h with
  | load r o hd ho =>
    have hvalue := hread.operandValue_eq ho fun q hq => by
      rw [hd, hq]; exact (readsMemory_of_memory q).1 r
    refine .keeps (by rw [hd]; rfl) ?_
    rw [load_eq, load_eq, hvalue, operandCrossed_with_mem, State.setReg_with_mem]
  | store r o hd ho =>
    refine .writes (by rw [hd]; rfl) o ho (s.reg r) (by rw [store_eq]) ?_
    rw [store_eq, store_eq, resolveAddr_with_mem, State.reg_with_mem]
  | transfer src dst hd =>
    refine .keeps (by rw [hd]; rfl) ?_
    rw [transfer_eq, transfer_eq, State.reg_with_mem, State.setReg_with_mem]
  | adc o hd ho =>
    have hvalue := hread.operandValue_eq ho fun q hq => by
      rw [hd, hq]; exact (readsMemory_of_memory q).2.1
    refine .keeps (by rw [hd]; rfl) ?_
    rw [adc_eq, adc_eq, hvalue, operandCrossed_with_mem]
  | logical op o hd ho =>
    have hvalue := hread.operandValue_eq ho fun q hq => by
      rw [hd, hq]; exact (readsMemory_of_memory q).2.2 op
    refine .keeps (by rw [hd]; rfl) ?_
    rw [logical_eq, logical_eq, hvalue, operandCrossed_with_mem]
  | bitTest o hd ho =>
    refine .keeps (by rw [hd]; rfl) ?_
    rw [bitTest_eq, bitTest_eq, resolveAddr_with_mem, hread (by rw [hd]; rfl) o ho]
  | incDecMemory dir o hd ho =>
    refine .writes (by rw [hd]; rfl) o ho _ (by rw [incDecMemory_eq]) ?_
    rw [incDecMemory_eq, incDecMemory_eq, resolveAddr_with_mem, hread (by rw [hd]; rfl) o ho]
  | incDecRegister dir r hd =>
    refine .keeps (by rw [hd]; rfl) ?_
    rw [incDecRegister_eq, incDecRegister_eq, State.reg_with_mem, State.setReg_with_mem]
  | shiftAccumulator kind hd =>
    exact .keeps (by rw [hd]; rfl) (by rw [shift_accumulator_eq, shift_accumulator_eq])
  | shiftMemory kind o hd ho =>
    have hdata := hread (by rw [hd]; exact (shift_readsMemory_storesToMemory kind o).1) o ho
    refine .writes (by rw [hd]; exact (shift_readsMemory_storesToMemory kind o).2) o ho _
      (by rw [shift_memory_eq]) ?_
    rw [shift_memory_eq, shift_memory_eq, resolveAddr_with_mem, hdata]
  | setFlag k hd | clearFlag k hd =>
    refine .keeps (by rw [hd]; rfl) ?_
    rw [writeFlag_eq, writeFlag_eq, State.setFlag_with_mem]
  | branch k takenWhen rel8 hd =>
    refine .keeps (by rw [hd]; rfl) ?_
    by_cases ht : s.flag k = takenWhen
    · rw [branch_taken_eq _ _ _ _ ht, branch_taken_eq _ _ _ _ ((s.flag_with_mem k m).trans ht)]
    · rw [branch_not_taken_eq _ _ _ _ ht,
        branch_not_taken_eq _ _ _ _ (by rwa [State.flag_with_mem])]
  | nop hd => exact .keeps (by rw [hd]; rfl) rfl

/-- R55: an instruction that stores writes the one byte at its effective address, any other none. -/
theorem Shape.mem_cases {i : Instr} {f : State → State} (h : Shape i f) (s : State) :
    (storesToMemory i.descriptor = false ∧ (f s).mem = s.mem) ∨
      (storesToMemory i.descriptor = true ∧
        ∃ o w, memOperand i = some o ∧ (f s).mem = s.mem.write (resolveAddr o s).ea w) := by
  cases h.memoryEffect s s.mem fun _ _ _ => rfl with
  | keeps hstores hrun =>
    have hmem := congrArg State.mem hrun
    exact .inl ⟨hstores, hmem⟩
  | writes hstores o ho w hmem => exact .inr ⟨hstores, o, w, ho, hmem⟩

end Sys2Proof.Machine
end

section
/-! PROOFS. The invariant (log entry 13): memory in canonical form, which a write keeps, and a latch that
holds only a byte without an entry. -/

namespace Sys2Proof.Machine

open Sys2Proof.Statements

theorem State.Inv.with_mem_write {s t : State} (h : s.Inv) (hfault : t.fault = s.fault)
    (hmem : t.mem = s.mem ∨ ∃ p w, t.mem = s.mem.write p w) : t.Inv := by
  obtain ⟨hwf, hlatch⟩ := h
  refine ⟨?wf, fun e he => hlatch e (hfault ▸ he)⟩
  obtain hmem | ⟨p, w, hmem⟩ := hmem
  · rw [hmem]; exact hwf
  · rw [hmem]; exact s.mem.wf_write p w hwf

theorem Shape.keeps_inv {i : Instr} {f : State → State} (h : Shape i f) {s : State}
    (hs : s.Inv) : (f s).Inv := by
  refine hs.with_mem_write (h.keeps_fault s) ?_
  obtain ⟨_, hmem⟩ | ⟨_, o, w, _, hmem⟩ := h.mem_cases s
  · exact .inl hmem
  · exact .inr ⟨_, w, hmem⟩

/-- R250: the byte that the exception records is one that the fetch found no entry for. -/
theorem inv_raiseUnknownOpcode {s : State} (h : s.Inv) (hi : s.fetchInstr = none) :
    s.raiseUnknownOpcode.Inv := by
  refine ⟨h.1, fun e he => ?_⟩
  cases he
  exact (fetchInstr_none s).mp hi

theorem step_keeps_inv {s t : State} (h : s.Inv) (hs : step s = .next t) : t.Inv := by
  obtain ⟨_, ⟨hi, rfl⟩ | ⟨i, f, _, hshape, rfl⟩⟩ := step_inversion hs
  · exact inv_raiseUnknownOpcode h hi
  · exact hshape.keeps_inv h

/-- Settles O13: a step raises the exception or runs an instruction, and each keeps the invariant. -/
theorem stepKeepsInvariant : Obligations.StepKeepsInvariant := fun _ _ => step_keeps_inv

theorem runLoop_keeps_inv (fuel : Nat) {s : State} (h : s.Inv) : (runLoop fuel s).Inv := by
  induction fuel generalizing s with
  | zero => exact h
  | succ fuel ih =>
    unfold runLoop
    split
    case isTrue =>
      split
      case h_1 t hs => exact ih (step_keeps_inv h hs)
      case h_2 | h_3 => exact h
    case isFalse => exact h

theorem execute_keeps_inv (budget : Nat) {s : State} (h : s.Inv) : (execute budget s).Inv := by
  unfold execute
  split
  case h_1 => exact h
  case h_2 => exact runLoop_keeps_inv budget (s := { s with cyc := budget }) h

/-- The zeroed memory of R44 is the empty list, and the latch is clear. -/
theorem inv_resetWith (sp : Byte) (pc : Addr) : (State.resetWith sp pc).Inv := ⟨rfl, nofun⟩

/-- Settles O15. -/
theorem resetSatisfiesInvariant : Obligations.ResetSatisfiesInvariant :=
  ⟨inv_resetWith, inv_resetWith _ _⟩

theorem runCommand_keeps_inv {s : State} (cmd : Command) (h : s.Inv) :
    (runCommand cmd s).1.Inv := by
  cases cmd with
  | reset => exact inv_resetWith _ _
  | execute n => exact execute_keeps_inv n h
  | setRegister r value =>
    cases r with
    | data r => exact h.with_mem_write (s.fault_setReg r _) (.inl (s.mem_setReg r _))
    | pc => exact h
  | setStatus k bit => exact h.with_mem_write (s.fault_setFlag k bit) (.inl (s.mem_setFlag k bit))
  | setMemory p value => exact h.with_mem_write rfl (.inr ⟨p, _, rfl⟩)
  | getRegister r | getStatus k | getMemory p | getProgramCounter => exact h

/-- Settles O14: `execute` keeps what every step keeps, and a setter writes one item. -/
theorem commandsKeepInvariant : Obligations.CommandsKeepInvariant := fun _ => runCommand_keeps_inv

/-! ### Canonical lists are determined by what they read -/

theorem Memory.wfFrom_cons {low : Nat} {cell : Host.Cell} {m : Memory} :
    Memory.wfFrom low (cell :: m) = true ↔
      low ≤ cell.1 ∧ cell.1 < 65536 ∧ cell.2 ≠ Memory.unlisted ∧
        Memory.wfFrom (cell.1 + 1) m = true := by
  simp [Memory.wfFrom, and_assoc]

/-- Below its bound a canonical list holds no cell. -/
theorem Memory.read_of_lt {low : Nat} {m : Memory} (h : Memory.wfFrom low m = true) {p : Addr}
    (hp : p.toNat < low) : m.read p = Memory.unlisted := by
  induction m generalizing low with
  | nil => rfl
  | cons cell m ih =>
    obtain ⟨hlow, _, _, hrest⟩ := Memory.wfFrom_cons.mp h
    rw [Memory.read_cons, if_neg (by omega), ih hrest (by omega)]

/-- The first cell of a canonical list is listed, so no list that reads alike begins above it. -/
theorem Memory.le_first_of_read_eq {low low' : Nat} {cell : Host.Cell} {m m' : Memory}
    (h : Memory.wfFrom low (cell :: m) = true) (h' : Memory.wfFrom low' m' = true)
    (hread : ∀ p, Memory.read (cell :: m) p = m'.read p) : low' ≤ cell.1 := by
  obtain ⟨_, hbound, hlisted, _⟩ := Memory.wfFrom_cons.mp h
  by_contra hlt
  have hp : (BitVec.ofNat 16 cell.1).toNat = cell.1 := Nat.mod_eq_of_lt hbound
  have hcell := hread (BitVec.ofNat 16 cell.1)
  rw [Memory.read_cons, if_pos hp.symm, Memory.read_of_lt h' (by omega)] at hcell
  exact hlisted hcell

/-- Behind cells of one address, canonical lists that read alike go on with lists that read alike. -/
theorem Memory.tail_read_eq {low low' : Nat} {cell cell' : Host.Cell} {m m' : Memory}
    (h : Memory.wfFrom low (cell :: m) = true) (h' : Memory.wfFrom low' (cell' :: m') = true)
    (hkey : cell.1 = cell'.1) (hread : ∀ p, Memory.read (cell :: m) p = Memory.read (cell' :: m') p)
    (p : Addr) : m.read p = m'.read p := by
  obtain ⟨_, _, _, hrest⟩ := Memory.wfFrom_cons.mp h
  obtain ⟨_, _, _, hrest'⟩ := Memory.wfFrom_cons.mp h'
  by_cases hp : cell.1 = p.toNat
  · rw [Memory.read_of_lt hrest (by omega), Memory.read_of_lt hrest' (by omega)]
  · have hcell := hread p
    rwa [Memory.read_cons, Memory.read_cons, ← hkey, if_neg hp, if_neg hp] at hcell

theorem Memory.eq_of_read_eq {low low' : Nat} {m m' : Memory} (h : Memory.wfFrom low m = true)
    (h' : Memory.wfFrom low' m' = true) (hread : ∀ p, m.read p = m'.read p) : m = m' := by
  induction m generalizing low low' m' with
  | nil =>
    cases m' with
    | nil => rfl
    | cons cell' m' =>
      obtain ⟨_, hbound, _⟩ := Memory.wfFrom_cons.mp h'
      have hempty : Memory.wfFrom 65536 [] = true := rfl
      exact absurd (Memory.le_first_of_read_eq h' hempty fun p => (hread p).symm) (by omega)
  | cons cell m ih =>
    obtain ⟨_, hbound, hlisted, hrest⟩ := Memory.wfFrom_cons.mp h
    cases m' with
    | nil =>
      have hempty : Memory.wfFrom 65536 [] = true := rfl
      exact absurd (Memory.le_first_of_read_eq h hempty hread) (by omega)
    | cons cell' m' =>
      obtain ⟨_, hbound', hlisted', hrest'⟩ := Memory.wfFrom_cons.mp h'
      have hself := Memory.wfFrom_cons.mpr ⟨le_refl cell.1, hbound, hlisted, hrest⟩
      have hself' := Memory.wfFrom_cons.mpr ⟨le_refl cell'.1, hbound', hlisted', hrest'⟩
      have hkey : cell.1 = cell'.1 := le_antisymm
        (Memory.le_first_of_read_eq h' hself fun p => (hread p).symm)
        (Memory.le_first_of_read_eq h hself' hread)
      have hp : cell.1 = (BitVec.ofNat 16 cell.1).toNat := (Nat.mod_eq_of_lt hbound).symm
      have hvalue := hread (BitVec.ofNat 16 cell.1)
      rw [Memory.read_cons, Memory.read_cons, if_pos hp, if_pos (hkey ▸ hp)] at hvalue
      rw [Prod.ext hkey hvalue, ih hrest hrest' (Memory.tail_read_eq h h' hkey hread)]

/-- Settles O16: the lists agree cell by cell, from the lowest address that is listed. -/
theorem canonicalMemoriesAreEqualData : Obligations.CanonicalMemoriesAreEqualData :=
  fun _ _ => Memory.eq_of_read_eq

end Sys2Proof.Machine
end

section
/-! PROOFS. The forms of the other families (R138 to R139, R159 to R164, R178 to R179, R199 to R216): each form
is the shared operation of its family on an operand of its mode. -/

namespace Sys2Proof.Machine

open Sys2Proof.Statements

/-! ### Operands -/

/-- A load-style instruction of a row of R233 with this operand has this length, takes this value and costs
this much. -/
structure Supplies (cls : CostClass) (o : ValueOperand) (length : Nat) (value : State → Byte)
    (k : State → Int) : Prop where
  length_eq : o.mode.length = length
  value_eq : ∀ s, operandValue o s = value s
  cost_eq : ∀ s, (cost cls o.mode (operandCrossed o s) : Int) = k s

section
variable {cls : CostClass} {k : Int}

theorem supplies_immediate (v : Byte) (hk : (baseCost cls .immediate : Int) = k) :
    Supplies cls (.immediate v) 2 (immediate v) (fixed k) :=
  ⟨rfl, fun _ => rfl, fun _ => cost_of_not_crossed hk⟩

theorem Accesses.supplies {o : MemOperand} {length : Nat} {ea : State → Addr} {k : State → Int}
    (ho : Accesses cls o length ea k) : Supplies cls (.memory o) length (byteAt ea) k :=
  ⟨ho.length_eq, fun s => congrArg s.mem.read (ho.ea_eq s), ho.cost_eq⟩

/-- A row without the page-cross extra is charged its cell alone (R233). -/
theorem cost_of_not_charged (hcls : crossCharged cls = false) (m : Mode) (crossed : Bool) :
    cost cls m crossed = baseCost cls m := by simp [cost, hcls]

theorem accesses_absoluteX_not_charged (base : Addr) (hk : (baseCost cls .absoluteX : Int) = k)
    (hcls : crossCharged cls = false) :
    Accesses cls (.absoluteX base) 3 (abxEa base) (fixed k) :=
  ⟨rfl, fun s => indexAbsolute_ea base s.x,
    fun _ => (congrArg Nat.cast (cost_of_not_charged hcls _ _)).trans hk⟩

end

/-! ### Completed instructions -/

theorem runs_imp {i : Instr} {s : State} {length : Nat} {k : Int} {regs : List Reg}
    {flags : List Flag} {post post' : State → Prop} (h : Runs i s length k regs flags post)
    (himp : ∀ t, post t → post' t) : Runs i s length k regs flags post' := by
  obtain ⟨t, hexec, hpc, hcyc, hfault, hregs, hflags, hpost⟩ := h
  exact ⟨t, hexec, hpc, hcyc, hfault, hregs, hflags, himp t hpost⟩

/-- Two flags written as `setNZ` writes them follow the result (R120). -/
theorem nzFrom_of_eq {t : State} {r : Byte} (hz : t.z = isZero r) (hn : t.n = isNegative r) :
    NZFrom t r := ⟨hz, hn.trans (isNegative_eq_decide r)⟩

theorem regsKept_setReg (s : State) (r : Reg) (w : Byte) : RegsKept s (s.setReg r w) [r] := by
  intro q hq
  have hne : q ≠ r := by simpa using hq
  rw [State.reg_setReg, if_neg hne]

theorem flagsKept_setFlag (s : State) (k : Flag) (w : Bool) : FlagsKept s (s.setFlag k w) [k] := by
  intro q hq
  have hne : q ≠ k := by simpa using hq
  rw [State.flag_setFlag, if_neg hne]

/-! ### STORE -/

theorem stores_of_accesses {r : Reg} {i : Instr} {o : MemOperand} {length : Nat}
    {ea : State → Addr} {k : State → Int} (ho : Accesses .store o length ea k)
    (hexec : ∀ s, exec i s = .next (store r o s)) : Stores r i length ea k := by
  intro s
  rw [← ho.ea_eq, ← ho.cost_eq, ← ho.length_eq]
  exact ⟨_, hexec s, pc_advance_toNat s o.mode.length, rfl, rfl, fun q _ => by simp [store],
    fun q _ => by simp [store], Memory.read_write_same ..,
    fun _ => Memory.read_write_other _ _ _ _⟩

/-- Settles O28: each form is `store` of an operand whose address, length and cost are those of its mode. -/
theorem storesWriteOneByte : Obligations.StoresWriteOneByte :=
  ⟨fun p => stores_of_accesses (accesses_zeroPage p rfl) fun _ => rfl,
    fun p => stores_of_accesses (accesses_zeroPageX p rfl) fun _ => rfl,
    fun p => stores_of_accesses (accesses_absolute p rfl) fun _ => rfl,
    fun p => stores_of_accesses (accesses_absoluteX p rfl rfl) fun _ => rfl,
    fun p => stores_of_accesses (accesses_absoluteY p rfl rfl) fun _ => rfl,
    fun p => stores_of_accesses (accesses_zeroPage p rfl) fun _ => rfl,
    fun p => stores_of_accesses (accesses_zeroPageY p rfl) fun _ => rfl,
    fun p => stores_of_accesses (accesses_absolute p rfl) fun _ => rfl,
    fun p => stores_of_accesses (accesses_zeroPage p rfl) fun _ => rfl,
    fun p => stores_of_accesses (accesses_zeroPageX p rfl) fun _ => rfl,
    fun p => stores_of_accesses (accesses_absolute p rfl) fun _ => rfl⟩

/-! ### TRANSFER -/

theorem transfers_of_exec {src dst : Reg} {i : Instr}
    (hexec : ∀ s, exec i s = .next (transfer src dst s)) : Transfers src dst i :=
  fun s => runs_setReg_setNZ (hexec s)

/-- Settles O29: each form is `transfer`. -/
theorem transfersCopyAndSetFlags : Obligations.TransfersCopyAndSetFlags :=
  ⟨transfers_of_exec fun _ => rfl, transfers_of_exec fun _ => rfl, transfers_of_exec fun _ => rfl,
    transfers_of_exec fun _ => rfl, transfers_of_exec fun _ => rfl, transfers_of_exec fun _ => rfl⟩

/-! ### ADC -/

theorem regsKept_adc (o : ValueOperand) (s : State) : RegsKept s (adc o s) [.a] := by
  intro r hr
  rw [adc_eq]
  cases r with
  | a => simp at hr
  | _ => rfl

theorem flagsKept_adc (o : ValueOperand) (s : State) :
    FlagsKept s (adc o s) [.c, .z, .v, .n] := by
  intro k hk
  rw [adc_eq]
  cases k with
  | c | z | v | n => simp at hk
  | _ => rfl

theorem adds_of_supplies {i : Instr} {o : ValueOperand} {length : Nat} {value : State → Byte}
    {k : State → Int} (ho : Supplies .adc o length value k)
    (hexec : ∀ s, exec i s = .next (adc o s)) : Adds i length value k := by
  intro s
  rw [← ho.value_eq, ← ho.cost_eq, ← ho.length_eq]
  exact ⟨_, hexec s, pc_advance_toNat s o.mode.length, rfl, rfl, regsKept_adc o s, flagsKept_adc o s,
    add8_result_toNat s.a (operandValue o s) s.c, rfl,
    add8_overflow_iff s.a (operandValue o s) s.c,
    add8_overflow_iff_signed s.a (operandValue o s) s.c, nzFrom_of_eq rfl rfl, fun _ => rfl⟩

/-- Settles O30: each form is `adc`, whose sum, carry and overflow are those of `add8`, for every D. -/
theorem adcAddsWithCarry : Obligations.AdcAddsWithCarry :=
  ⟨fun v => adds_of_supplies (supplies_immediate v rfl) fun _ => rfl,
    fun p => adds_of_supplies (accesses_zeroPage p rfl).supplies fun _ => rfl,
    fun p => adds_of_supplies (accesses_zeroPageX p rfl).supplies fun _ => rfl,
    fun p => adds_of_supplies (accesses_absolute p rfl).supplies fun _ => rfl,
    fun p => adds_of_supplies (accesses_absoluteX p rfl rfl).supplies fun _ => rfl,
    fun p => adds_of_supplies (accesses_absoluteY p rfl rfl).supplies fun _ => rfl⟩

/-! ### LOGICAL -/

theorem combines_of_supplies {op : LogicOp} {bitOp : Bool → Bool → Bool}
    (hop : ∀ (a m : Byte) (k : Nat),
      (logic8 op a m).getLsbD k = bitOp (a.getLsbD k) (m.getLsbD k))
    {i : Instr} {o : ValueOperand} {length : Nat} {value : State → Byte} {k : State → Int}
    (ho : Supplies .logical o length value k)
    (hexec : ∀ s, exec i s = .next (logical op o s)) : Combines bitOp i length value k := by
  intro s
  rw [← ho.cost_eq, ← ho.length_eq, ← ho.value_eq]
  refine runs_imp (runs_setReg_setNZ (hexec s)) fun t ⟨ha, hnz, hmem⟩ => ?_
  rw [State.reg_a] at ha
  exact ⟨fun k _ => ha ▸ hop s.a (operandValue o s) k, ha ▸ hnz, hmem⟩

/-- Settles O31: each form is `logical`, which acts bit by bit. -/
theorem logicalFormsCombineBits : Obligations.LogicalFormsCombineBits := by
  have hand := getLsbD_logic8 .and
  have heor := getLsbD_logic8 .eor
  have hior := getLsbD_logic8 .ior
  exact ⟨fun v => combines_of_supplies hand (supplies_immediate v rfl) fun _ => rfl,
    fun p => combines_of_supplies hand (accesses_zeroPage p rfl).supplies fun _ => rfl,
    fun p => combines_of_supplies hand (accesses_zeroPageX p rfl).supplies fun _ => rfl,
    fun p => combines_of_supplies hand (accesses_absolute p rfl).supplies fun _ => rfl,
    fun p => combines_of_supplies hand (accesses_absoluteX p rfl rfl).supplies fun _ => rfl,
    fun p => combines_of_supplies hand (accesses_absoluteY p rfl rfl).supplies fun _ => rfl,
    fun v => combines_of_supplies heor (supplies_immediate v rfl) fun _ => rfl,
    fun p => combines_of_supplies heor (accesses_zeroPage p rfl).supplies fun _ => rfl,
    fun p => combines_of_supplies heor (accesses_zeroPageX p rfl).supplies fun _ => rfl,
    fun p => combines_of_supplies heor (accesses_absolute p rfl).supplies fun _ => rfl,
    fun p => combines_of_supplies heor (accesses_absoluteX p rfl rfl).supplies fun _ => rfl,
    fun p => combines_of_supplies heor (accesses_absoluteY p rfl rfl).supplies fun _ => rfl,
    fun v => combines_of_supplies hior (supplies_immediate v rfl) fun _ => rfl,
    fun p => combines_of_supplies hior (accesses_zeroPage p rfl).supplies fun _ => rfl,
    fun p => combines_of_supplies hior (accesses_zeroPageX p rfl).supplies fun _ => rfl,
    fun p => combines_of_supplies hior (accesses_absolute p rfl).supplies fun _ => rfl,
    fun p => combines_of_supplies hior (accesses_absoluteX p rfl rfl).supplies fun _ => rfl,
    fun p => combines_of_supplies hior (accesses_absoluteY p rfl rfl).supplies fun _ => rfl⟩

/-! ### BIT -/

theorem and_eq_zero_iff (a m : Byte) :
    a &&& m = 0 ↔ ∀ k, k < 8 → ¬(a.getLsbD k = true ∧ m.getLsbD k = true) := by
  constructor
  · intro h k _ hbits
    have hk := congrArg (BitVec.getLsbD · k) h
    simp [BitVec.getLsbD_and, hbits.1, hbits.2] at hk
  · intro h
    refine BitVec.eq_of_getLsbD_eq fun k hk => ?_
    simpa [BitVec.getLsbD_and] using h k hk

theorem flagsKept_bitTest (o : MemOperand) (s : State) :
    FlagsKept s (bitTest o s) [.z, .v, .n] := by
  intro k hk
  rw [bitTest_eq]
  cases k with
  | z | v | n => simp at hk
  | _ => rfl

theorem testsBits_of_accesses {i : Instr} {o : MemOperand} {length : Nat} {ea : State → Addr}
    {k : Int} (ho : Accesses .bitTest o length ea (fixed k))
    (hexec : ∀ s, exec i s = .next (bitTest o s)) : TestsBits i length ea k := by
  intro s
  rw [← ho.ea_eq, ← ho.length_eq]
  exact ⟨_, hexec s, pc_advance_toNat s o.mode.length, congrArg (s.cyc - ·) (ho.cost_eq s),
    by simp [bitTest], fun r _ => by simp [bitTest], flagsKept_bitTest o s,
    (bitTest8_zero_iff s.a (s.mem.read (resolveAddr o s).ea)).trans (and_eq_zero_iff s.a _), rfl, rfl,
    fun p => by simp [bitTest]⟩

/-- Settles O32: both forms are `bitTest`; A and the byte have no bit in common exactly when their and
is 0. -/
theorem bitFormsTestMemory : Obligations.BitFormsTestMemory :=
  ⟨fun p => testsBits_of_accesses (accesses_zeroPage p rfl) fun _ => rfl,
    fun p => testsBits_of_accesses (accesses_absolute p rfl) fun _ => rfl⟩

/-! ### INC/DEC -/

theorem incDec8_toNat (dir : Direction) (m : Byte) : (incDec8 dir m).toNat = steppedBy dir m := by
  cases dir with
  | inc =>
    have h := incDec8_inc_toNat m
    simp only [steppedBy]
    omega
  | dec =>
    have h := incDec8_dec_toNat m
    simp only [steppedBy]
    omega

theorem flagsKept_incDecMemory (dir : Direction) (o : MemOperand) (s : State) :
    FlagsKept s (incDecMemory dir o s) [.z, .n] := by
  intro k hk
  rw [incDecMemory_eq]
  cases k with
  | z | n => simp at hk
  | _ => rfl

theorem stepsByte_of_accesses {dir : Direction} {i : Instr} {o : MemOperand} {length : Nat}
    {ea : State → Addr} {k : Int} (ho : Accesses .incDecMemory o length ea (fixed k))
    (hexec : ∀ s, exec i s = .next (incDecMemory dir o s)) : StepsByte dir i length ea k := by
  intro s
  rw [← ho.ea_eq, ← ho.length_eq]
  refine ⟨_, hexec s, pc_advance_toNat s o.mode.length, congrArg (s.cyc - ·) (ho.cost_eq s),
    by simp [incDecMemory], fun r _ => by simp [incDecMemory], flagsKept_incDecMemory dir o s, ?_⟩
  simp only [incDecMemory_eq, Memory.read_write_same]
  exact ⟨incDec8_toNat dir _, nzFrom_of_eq rfl rfl, fun _ => Memory.read_write_other _ _ _ _⟩

/-- Settles O33: each form is `incDecMemory` of an operand whose address, length and cost are those of its
mode. -/
theorem incDecMemoryForms : Obligations.IncDecMemoryForms :=
  ⟨fun p => stepsByte_of_accesses (accesses_zeroPage p rfl) fun _ => rfl,
    fun p => stepsByte_of_accesses (accesses_zeroPageX p rfl) fun _ => rfl,
    fun p => stepsByte_of_accesses (accesses_absolute p rfl) fun _ => rfl,
    fun p => stepsByte_of_accesses (accesses_absoluteX_not_charged p rfl rfl) fun _ => rfl,
    fun p => stepsByte_of_accesses (accesses_zeroPage p rfl) fun _ => rfl,
    fun p => stepsByte_of_accesses (accesses_zeroPageX p rfl) fun _ => rfl,
    fun p => stepsByte_of_accesses (accesses_absolute p rfl) fun _ => rfl,
    fun p => stepsByte_of_accesses (accesses_absoluteX_not_charged p rfl rfl) fun _ => rfl⟩

theorem stepsRegister_of_exec {dir : Direction} {r : Reg} {i : Instr}
    (hexec : ∀ s, exec i s = .next (incDecRegister dir r s)) : StepsRegister dir r i := by
  intro s
  refine runs_imp (runs_setReg_setNZ (hexec s)) fun t ⟨hr, hnz, hmem⟩ => ?_
  exact ⟨hr ▸ incDec8_toNat dir (s.reg r), hr ▸ hnz, hmem⟩

/-- Settles O34: each form is `incDecRegister`. -/
theorem incDecRegisterForms : Obligations.IncDecRegisterForms :=
  ⟨stepsRegister_of_exec fun _ => rfl, stepsRegister_of_exec fun _ => rfl,
    stepsRegister_of_exec fun _ => rfl, stepsRegister_of_exec fun _ => rfl⟩

/-! ### SHIFT/ROTATE -/

theorem regsKept_shift_accumulator (kind : ShiftKind) (s : State) :
    RegsKept s (shift kind .accumulator s) [.a] := by
  intro r hr
  rw [shift_accumulator_eq]
  cases r with
  | a => simp at hr
  | _ => rfl

theorem flag_writeShifted (o : ShiftOperand) (v : Byte) (s : State) (k : Flag) :
    (writeShifted o v s).flag k = s.flag k := by
  cases o with
  | accumulator => exact s.flag_setReg .a v k
  | memory o => exact s.flag_memWrite _ v k

theorem flagsKept_shift (kind : ShiftKind) (o : ShiftOperand) (s : State) :
    FlagsKept s (shift kind o s) [.c, .z, .n] := by
  intro k hk
  have hc : k ∉ [Flag.c] := fun h => hk (by simp_all)
  have hnz : k ∉ [Flag.z, .n] := fun h => hk (List.mem_cons_of_mem _ h)
  rw [shift, State.flag_charge, flagsKept_setNZ _ _ k hnz, flagsKept_setFlag _ _ _ k hc,
    State.flag_advance, flag_writeShifted]

theorem shiftsA_of_exec {kind : ShiftKind} {i : Instr}
    (hexec : ∀ s, exec i s = .next (shift kind .accumulator s)) : ShiftsA kind i :=
  fun s => ⟨_, hexec s, pc_advance_toNat s 1, rfl, rfl, regsKept_shift_accumulator kind s,
    flagsKept_shift kind .accumulator s, shift8_result_toNat kind s.a s.c,
    shift8_carry kind s.a s.c, nzFrom_of_eq rfl rfl, fun _ => rfl⟩

/-- Settles O35: each form is `shift` of A. -/
theorem shiftAccumulatorForms : Obligations.ShiftAccumulatorForms :=
  ⟨shiftsA_of_exec fun _ => rfl, shiftsA_of_exec fun _ => rfl, shiftsA_of_exec fun _ => rfl,
    shiftsA_of_exec fun _ => rfl⟩

theorem shiftsByte_of_accesses {kind : ShiftKind} {i : Instr} {o : MemOperand} {length : Nat}
    {ea : State → Addr} {k : Int} (ho : Accesses .shiftRotate o length ea (fixed k))
    (hexec : ∀ s, exec i s = .next (shift kind (.memory o) s)) :
    ShiftsByte kind i length ea k := by
  intro s
  have hcost : (cost .shiftRotate o.mode false : Int) = k := by
    rw [cost_not_crossed, ← cost_of_not_charged rfl]
    exact ho.cost_eq s
  rw [← ho.ea_eq, ← ho.length_eq]
  refine ⟨_, hexec s, pc_advance_toNat s o.mode.length, by rw [← hcost, shift_memory_eq],
    by simp [shift, writeShifted], fun r _ => by simp [shift, writeShifted],
    flagsKept_shift kind (.memory o) s, ?_⟩
  simp only [shift_memory_eq, Memory.read_write_same]
  exact ⟨shift8_result_toNat kind _ s.c, shift8_carry kind _ s.c, nzFrom_of_eq rfl rfl,
    fun _ => Memory.read_write_other _ _ _ _⟩

/-- Settles O36: each form is `shift` of a byte in memory, whose address, length and cost are those of its
mode. -/
theorem shiftMemoryForms : Obligations.ShiftMemoryForms :=
  ⟨fun p => shiftsByte_of_accesses (accesses_zeroPage p rfl) fun _ => rfl,
    fun p => shiftsByte_of_accesses (accesses_zeroPageX p rfl) fun _ => rfl,
    fun p => shiftsByte_of_accesses (accesses_absolute p rfl) fun _ => rfl,
    fun p => shiftsByte_of_accesses (accesses_absoluteX_not_charged p rfl rfl) fun _ => rfl,
    fun p => shiftsByte_of_accesses (accesses_zeroPage p rfl) fun _ => rfl,
    fun p => shiftsByte_of_accesses (accesses_zeroPageX p rfl) fun _ => rfl,
    fun p => shiftsByte_of_accesses (accesses_absolute p rfl) fun _ => rfl,
    fun p => shiftsByte_of_accesses (accesses_absoluteX_not_charged p rfl rfl) fun _ => rfl,
    fun p => shiftsByte_of_accesses (accesses_zeroPage p rfl) fun _ => rfl,
    fun p => shiftsByte_of_accesses (accesses_zeroPageX p rfl) fun _ => rfl,
    fun p => shiftsByte_of_accesses (accesses_absolute p rfl) fun _ => rfl,
    fun p => shiftsByte_of_accesses (accesses_absoluteX_not_charged p rfl rfl) fun _ => rfl,
    fun p => shiftsByte_of_accesses (accesses_zeroPage p rfl) fun _ => rfl,
    fun p => shiftsByte_of_accesses (accesses_zeroPageX p rfl) fun _ => rfl,
    fun p => shiftsByte_of_accesses (accesses_absolute p rfl) fun _ => rfl,
    fun p => shiftsByte_of_accesses (accesses_absoluteX_not_charged p rfl rfl) fun _ => rfl⟩

/-! ### SET_FLAG and CLEAR_FLAG -/

theorem flagsKept_writeFlag (s : State) (k : Flag) (bit : Bool) :
    FlagsKept s (writeFlag k bit s) [k] := by
  intro q hq
  rw [writeFlag, State.flag_charge, flagsKept_setFlag _ _ _ q hq, State.flag_advance]

theorem writesFlag_of_exec {k : Flag} {bit : Bool} {i : Instr}
    (hexec : ∀ s, exec i s = .next (writeFlag k bit s)) : WritesFlag k bit i := by
  intro s
  refine ⟨_, hexec s, ?pc, ?cyc, ?fault, ?regs, flagsKept_writeFlag s k bit,
    flag_writeFlag_same k bit s, ?mem⟩
  case pc => rw [writeFlag_eq]; exact pc_advance_toNat s 1
  case cyc => rw [writeFlag_eq]
  case fault => rw [writeFlag_eq, State.fault_setFlag]
  case regs => intro r _; simp [writeFlag]
  case mem => intro p; rw [writeFlag_eq, State.mem_setFlag]

/-- Settles O37: each form is `writeFlag` of its flag and bit. -/
theorem flagInstructionsWriteOneFlag : Obligations.FlagInstructionsWriteOneFlag :=
  ⟨writesFlag_of_exec fun _ => rfl, writesFlag_of_exec fun _ => rfl,
    writesFlag_of_exec fun _ => rfl, writesFlag_of_exec fun _ => rfl,
    writesFlag_of_exec fun _ => rfl, writesFlag_of_exec fun _ => rfl,
    writesFlag_of_exec fun _ => rfl⟩

/-! ### BRANCH -/

/-- An integer stored in w bits is reduced modulo 2 ^ w (R10, R38, R207). -/
theorem toNat_ofInt_eq_emod (w : Nat) (v : Int) :
    ((BitVec.ofInt w v).toNat : Int) = v % ((2 ^ w : Nat) : Int) := by
  have hnonneg : 0 ≤ v % ((2 ^ w : Nat) : Int) :=
    Int.emod_nonneg v (Int.natCast_ne_zero.mpr (Nat.two_pow_pos w).ne')
  rw [BitVec.toNat_ofInt, Int.toNat_of_nonneg hnonneg]

/-- The displacement of R207 as a number, modulo 65536. -/
theorem signExtend16_toNat (d : Byte) : ((signExtend16 d).toNat : Int) = d.toInt % 65536 :=
  toNat_ofInt_eq_emod 16 d.toInt

/-- The target of a taken branch is the address after it plus the displacement, modulo 65536. -/
theorem branchTarget_toNat (next : Addr) (d : Byte) :
    ((next + signExtend16 d).toNat : Int) = ((next.toNat : Int) + d.toInt) % 65536 := by
  have hd := signExtend16_toNat d
  have hadd : (next + signExtend16 d).toNat = (next.toNat + (signExtend16 d).toNat) % 65536 :=
    BitVec.toNat_add ..
  omega

theorem pagesDiffer_iff (p q : Addr) :
    pagesDiffer p q = true ↔ p.toNat / 256 ≠ q.toNat / 256 := by
  rw [pagesDiffer, bne_iff_ne, ne_eq, ← BitVec.toNat_inj, hiByte_toNat, hiByte_toNat]

theorem branchCost_taken (target next : Addr) :
    (branchCost true (pagesDiffer target next) : Int) =
      if target.toNat / 256 = next.toNat / 256 then 3 else 4 := by
  by_cases h : target.toNat / 256 = next.toNat / 256
  · rw [if_pos h, Bool.eq_false_iff.mpr fun hp => (pagesDiffer_iff target next).mp hp h]
    rfl
  · rw [if_neg h, (pagesDiffer_iff target next).mpr h]
    rfl

theorem branches_of_exec {k : Flag} {takenWhen : Bool} {mk : Byte → Instr}
    (hexec : ∀ disp s, exec (mk disp) s = .next (branch k takenWhen disp s)) :
    Branches k takenWhen mk := by
  intro disp s
  have hnext : (s.pc + 2).toNat = (s.pc.toNat + 2) % 65536 := pc_advance_toNat s 2
  by_cases ht : s.flag k = takenWhen
  · refine ⟨_, (hexec disp s).trans (congrArg _ (branch_taken_eq _ _ _ _ ht)),
      fun r _ => by cases r <;> rfl, fun q _ => by cases q <;> rfl, fun _ => rfl, rfl, ?_⟩
    rw [if_pos ht, ← hnext]
    exact ⟨branchTarget_toNat (s.pc + 2) disp,
      congrArg (s.cyc - ·) (branchCost_taken _ (s.pc + 2))⟩
  · refine ⟨_, (hexec disp s).trans (congrArg _ (branch_not_taken_eq _ _ _ _ ht)),
      fun r _ => by cases r <;> rfl, fun q _ => by cases q <;> rfl, fun _ => rfl, rfl, ?_⟩
    rw [if_neg ht]
    exact ⟨hnext, rfl⟩

/-- Settles O38: each form is `branch` of its flag and value, taken or not. -/
theorem branchesMovePcByDisplacement : Obligations.BranchesMovePcByDisplacement :=
  ⟨branches_of_exec fun _ _ => rfl, branches_of_exec fun _ _ => rfl,
    branches_of_exec fun _ _ => rfl, branches_of_exec fun _ _ => rfl,
    branches_of_exec fun _ _ => rfl, branches_of_exec fun _ _ => rfl,
    branches_of_exec fun _ _ => rfl, branches_of_exec fun _ _ => rfl⟩

/-! ### NOP -/

theorem runs_nop (s : State) : Runs .nop s 1 2 [] [] fun t => MemoryKept s t ∧
    { t with pc := s.pc, cyc := s.cyc } = s :=
  ⟨nop s, rfl, pc_advance_toNat s 1, rfl, rfl, fun r _ => by cases r <;> rfl,
    fun q _ => by cases q <;> rfl, fun _ => rfl, rfl⟩

/-- Settles O39: NOP writes pc and the budget; the list that decodes to it is its encoding. -/
theorem nopOnlyAdvances : Obligations.NopOnlyAdvances := by
  refine ⟨runs_nop, fun op rest => decode_eq_instr_iff.trans ?_⟩
  simp [encode]

end Sys2Proof.Machine
end

section
/-! PROOFS. What every instruction leaves alone, and what it may change (R21 to R35, R233): one case for each
shape of an instruction. -/

namespace Sys2Proof.Machine

open Sys2Proof.Statements

/-! ### Costs -/

theorem baseCost_le_of_crossCharged {cls : CostClass} (m : Mode)
    (h : crossCharged cls = true) : baseCost cls m ≤ 4 := by
  revert h
  cases cls <;> cases m <;> decide

/-- R233: "Every cost is between 2 and 7." -/
theorem cost_range {i : Instr} {cls : CostClass} {d : Descriptor} (hd : i.descriptor = d)
    (hcls : costClassOf d.kind = some cls) (crossed : Bool) :
    2 ≤ cost cls d.mode crossed ∧ cost cls d.mode crossed ≤ 7 := by
  subst hd
  have hbase := baseCost_pos i cls hcls
  cases hcross : crossCharged cls with
  | false => rw [cost_of_not_charged hcross]; exact hbase
  | true =>
    have hle := cost_le cls i.descriptor.mode crossed
    have hfour := baseCost_le_of_crossCharged i.descriptor.mode hcross
    omega

/-- Every instruction charges a cost of the table (R232, R233). -/
theorem Shape.charges {i : Instr} {f : State → State} (h : Shape i f) (s : State) :
    ∃ k : Nat, (2 ≤ k ∧ k ≤ 7) ∧ (f s).cyc = s.cyc - k := by
  cases h with
  | load r o hd => exact ⟨_, cost_range hd rfl _, congrArg State.cyc (load_eq r o s)⟩
  | store r o hd => exact ⟨_, cost_range hd rfl _, congrArg State.cyc (store_eq r o s)⟩
  | transfer src dst => exact ⟨2, by omega, congrArg State.cyc (transfer_eq src dst s)⟩
  | adc o hd => exact ⟨_, cost_range hd rfl _, congrArg State.cyc (adc_eq o s)⟩
  | logical op o hd => exact ⟨_, cost_range hd rfl _, congrArg State.cyc (logical_eq op o s)⟩
  | bitTest o hd => exact ⟨_, cost_range hd rfl _, congrArg State.cyc (bitTest_eq o s)⟩
  | incDecMemory dir o hd =>
    exact ⟨_, cost_range hd rfl _, congrArg State.cyc (incDecMemory_eq dir o s)⟩
  | incDecRegister dir r => exact ⟨2, by omega, congrArg State.cyc (incDecRegister_eq dir r s)⟩
  | shiftAccumulator kind => exact ⟨2, by omega, congrArg State.cyc (shift_accumulator_eq kind s)⟩
  | shiftMemory kind o hd =>
    exact ⟨_, cost_range hd rfl _, congrArg State.cyc (shift_memory_eq kind o s)⟩
  | setFlag k | clearFlag k => exact ⟨2, by omega, congrArg State.cyc (writeFlag_eq k _ s)⟩
  | branch k takenWhen rel8 =>
    by_cases ht : s.flag k = takenWhen
    · have hrange := branchCost_range true
        (pagesDiffer (s.pc + 2 + signExtend16 rel8) (s.pc + 2))
      exact ⟨_, ⟨hrange.1, by omega⟩, congrArg State.cyc (branch_taken_eq _ _ rel8 s ht)⟩
    · exact ⟨2, by omega, congrArg State.cyc (branch_not_taken_eq _ _ rel8 s ht)⟩
  | nop => exact ⟨2, by omega, congrArg State.cyc (nop_eq s)⟩

/-- Settles O40: every instruction has a shape, which charges a cost of the table. -/
theorem costsAreTwoToSeven : Obligations.CostsAreTwoToSeven := by
  intro i s
  obtain ⟨f, hshape, hf⟩ := exec_shape i
  obtain ⟨k, ⟨hlow, hhigh⟩, hcyc⟩ := hshape.charges s
  exact ⟨f s, hf s, by omega, by omega⟩

/-! ### The program counter -/

theorem length_eq_mode_length (i : Instr) : i.length = i.descriptor.mode.length :=
  Laws.EncodedLength.holds i

/-- R26(a): pc moves by the length, but for a taken branch. -/
theorem Shape.pc_of_not_taken {i : Instr} {f : State → State} (h : Shape i f) (s : State)
    (hnot : ∀ k w, i.descriptor.kind = .branch k w → s.flag k ≠ w) :
    (f s).pc = s.pc + BitVec.ofNat 16 i.length := by
  rw [length_eq_mode_length]
  cases h with
  | load r o hd => rw [load_eq, hd]
  | store r o hd => rw [store_eq, hd]
  | transfer src dst hd => rw [transfer_eq, hd]; rfl
  | adc o hd => rw [adc_eq, hd]
  | logical op o hd => rw [logical_eq, hd]
  | bitTest o hd => rw [bitTest_eq, hd]
  | incDecMemory dir o hd => rw [incDecMemory_eq, hd]
  | incDecRegister dir r hd => rw [incDecRegister_eq, hd]; rfl
  | shiftAccumulator kind hd => rw [shift_accumulator_eq, hd]; rfl
  | shiftMemory kind o hd => rw [shift_memory_eq, hd]
  | setFlag k hd | clearFlag k hd => rw [writeFlag_eq, hd]; rfl
  | branch k takenWhen rel8 hd =>
    rw [branch_not_taken_eq _ _ _ _ (hnot k takenWhen (by rw [hd])), hd]
    rfl
  | nop hd => rw [nop_eq, hd]; rfl

/-- An instruction of kind BRANCH runs `branch` with its second byte as the displacement (R207). -/
theorem Shape.of_branch {i : Instr} {f : State → State} (h : Shape i f) {k : Flag} {w : Bool}
    (hkind : i.descriptor.kind = .branch k w) :
    ∃ rel8, f = Machine.branch k w rel8 ∧ (encode i).tail = [rel8] := by
  cases h with
  | branch q takenWhen rel8 hd ho =>
    rw [hd] at hkind
    cases hkind
    exact ⟨rel8, rfl, ho.2⟩
  | _ => simp_all

theorem encode_ne_nil (i : Instr) : encode i ≠ [] := by
  intro h
  have hdecode := decode_encode i []
  rw [h] at hdecode
  cases hdecode

/-- R26(b): a taken branch moves pc by its length and its displacement. -/
theorem Shape.pc_of_taken {i : Instr} {f : State → State} (h : Shape i f) (s : State) {k : Flag}
    {w : Bool} (hkind : i.descriptor.kind = .branch k w) (ht : s.flag k = w) :
    ∃ op disp, encode i = [op, disp] ∧
      ((f s).pc.toNat : Int) = ((s.pc.toNat : Int) + 2 + disp.toInt) % 65536 := by
  obtain ⟨disp, rfl, htail⟩ := h.of_branch hkind
  obtain ⟨op, tail, hcons⟩ := List.exists_cons_of_ne_nil (encode_ne_nil i)
  obtain rfl : tail = [disp] := by rwa [hcons] at htail
  refine ⟨op, disp, hcons, ?_⟩
  have htarget := branchTarget_toNat (s.pc + 2) disp
  have hnext : (s.pc + 2).toNat = (s.pc.toNat + 2) % 65536 := pc_advance_toNat s 2
  rw [branch_taken_eq _ _ _ _ ht]
  dsimp only
  omega

theorem mode_length_range (m : Mode) : 1 ≤ m.length ∧ m.length ≤ 3 := by cases m <;> decide

/-- Of the host commands only reset, execute and the setter of PC change pc (R37 to R41). -/
theorem runCommand_keeps_pc (s : State) (cmd : Command) (hexec : ∀ n, cmd ≠ .execute n)
    (hreset : cmd ≠ .reset) (hset : ∀ v, cmd ≠ .setRegister .pc v) :
    (runCommand cmd s).1.pc = s.pc := by
  cases cmd with
  | reset => exact absurd rfl hreset
  | execute n => exact absurd rfl (hexec n)
  | setRegister r value =>
    cases r with
    | data r => exact s.pc_setReg r _
    | pc => exact absurd rfl (hset value)
  | setStatus k bit => exact s.pc_setFlag k bit
  | setMemory p value => rfl
  | getRegister r | getStatus k | getMemory p | getProgramCounter => rfl

/-- Settles O41: pc after each shape, after a fetch and after each host command. -/
theorem pcChangesOnlyAsFetchOrBranch : Obligations.PcChangesOnlyAsFetchOrBranch := by
  refine ⟨fun i s t hexec => ?_, fetch8_pc_toNat, runCommand_keeps_pc,
    fun s v => toNat_ofInt_eq_emod 16 v, fun s => rfl⟩
  obtain ⟨f, hshape, rfl⟩ := shape_of_exec hexec
  refine ⟨?length, fun hnot => ?notTaken, fun k w => hshape.pc_of_taken s⟩
  case length => rw [length_eq_mode_length]; exact mode_length_range _
  case notTaken => rw [hshape.pc_of_not_taken s hnot]; exact pc_advance_toNat s i.length

/-! ### Flags -/

theorem flagsKept_setReg_setNZ (s : State) (len k : Nat) (r : Reg) (w : Byte) :
    FlagsKept s ((((s.advance len).setReg r w).setNZ w).charge k) [.z, .n] := by
  intro q hq
  rw [State.flag_charge, flagsKept_setNZ _ _ q hq, State.flag_setReg, State.flag_advance]

/-- R35: no instruction writes a flag that the table does not give its kind. -/
theorem Shape.flagsKept {i : Instr} {f : State → State} (h : Shape i f) (s : State) :
    FlagsKept s (f s) (writtenFlags i.descriptor.kind) := by
  cases h with
  | load r o hd => rw [hd]; exact flagsKept_setReg_setNZ s _ _ r _
  | store r o => intro q _; rw [store_eq]; cases q <;> rfl
  | transfer src dst hd => rw [hd]; exact flagsKept_setReg_setNZ s _ _ dst _
  | adc o hd => rw [hd]; exact flagsKept_adc o s
  | logical op o hd => rw [hd]; exact flagsKept_setReg_setNZ s _ _ .a _
  | bitTest o hd => rw [hd]; exact flagsKept_bitTest o s
  | incDecMemory dir o hd => rw [hd]; exact flagsKept_incDecMemory dir o s
  | incDecRegister dir r hd => rw [hd]; exact flagsKept_setReg_setNZ s _ _ r _
  | shiftAccumulator kind hd | shiftMemory kind o hd => rw [hd]; exact flagsKept_shift kind _ s
  | setFlag k hd | clearFlag k hd => rw [hd]; exact flagsKept_writeFlag s k _
  | branch k takenWhen rel8 =>
    intro q _
    by_cases ht : s.flag k = takenWhen
    · rw [branch_taken_eq _ _ _ _ ht]; cases q <;> rfl
    · rw [branch_not_taken_eq _ _ _ _ ht]; cases q <;> rfl
  | nop => intro q _; cases q <;> rfl

/-- Settles O42: each shape keeps the flags that the table does not list, and SET_FLAG and CLEAR_FLAG write
theirs. -/
theorem flagsChangeOnlyAsTabled : Obligations.FlagsChangeOnlyAsTabled := by
  intro i s t hexec
  obtain ⟨f, hshape, rfl⟩ := shape_of_exec hexec
  refine ⟨hshape.flagsKept s, fun k hkind => ?set, fun k hkind => ?clear⟩
  case set =>
    cases hshape with
    | setFlag q hd =>
      obtain rfl : q = k := by simpa [hd] using hkind
      exact flag_writeFlag_same q true s
    | _ => simp_all
  case clear =>
    cases hshape with
    | clearFlag q hd =>
      obtain rfl : q = k := by simpa [hd] using hkind
      exact flag_writeFlag_same q false s
    | _ => simp_all

/-! ### Registers and memory -/

theorem writtenRegs_shift_memory (kind : ShiftKind) (o : MemOperand) :
    writtenRegs ⟨.shift kind, o.mode⟩ = [] := by cases o <;> rfl

theorem regsKept_setReg_setNZ (s : State) (len k : Nat) (r : Reg) (w : Byte) :
    RegsKept s ((((s.advance len).setReg r w).setNZ w).charge k) [r] := by
  intro q hq
  rw [State.reg_charge, State.reg_setNZ, regsKept_setReg _ _ _ q hq, State.reg_advance]

/-- R21 to R24: no instruction writes a register but those that its descriptor lists. -/
theorem Shape.regsKept {i : Instr} {f : State → State} (h : Shape i f) (s : State) :
    RegsKept s (f s) (writtenRegs i.descriptor) := by
  cases h with
  | load r o hd => rw [hd]; exact regsKept_setReg_setNZ s _ _ r _
  | transfer src dst hd => rw [hd]; exact regsKept_setReg_setNZ s _ _ dst _
  | logical op o hd => rw [hd]; exact regsKept_setReg_setNZ s _ _ .a _
  | incDecRegister dir r hd => rw [hd]; exact regsKept_setReg_setNZ s _ _ r _
  | adc o hd => rw [hd]; exact regsKept_adc o s
  | shiftAccumulator kind hd => rw [hd]; exact regsKept_shift_accumulator kind s
  | store r o => intro q _; simp [Machine.store]
  | bitTest o => intro q _; simp [Machine.bitTest]
  | incDecMemory dir o => intro q _; simp [Machine.incDecMemory]
  | shiftMemory kind o => intro q _; simp [shift, writeShifted]
  | nop => intro q _; simp [Machine.nop]
  | setFlag k | clearFlag k => intro q _; simp [writeFlag]
  | branch k takenWhen rel8 =>
    intro q _
    by_cases ht : s.flag k = takenWhen
    · rw [branch_taken_eq _ _ _ _ ht]; cases q <;> rfl
    · rw [branch_not_taken_eq _ _ _ _ ht]; cases q <;> rfl

/-- Settles O43: the registers of each shape, and its one write to memory. -/
theorem registersAndMemoryFrame : Obligations.RegistersAndMemoryFrame := by
  intro i s t hexec
  obtain ⟨f, hshape, rfl⟩ := shape_of_exec hexec
  refine ⟨hshape.regsKept s, ?_⟩
  obtain ⟨hstores, hmem⟩ | ⟨hstores, o, w, ho, hmem⟩ := hshape.mem_cases s
  · exact ⟨fun _ p => by rw [hmem], fun h => absurd h (by simp [hstores])⟩
  · refine ⟨fun h => absurd h (by simp [hstores]), fun _ => ⟨o, ho, fun p hp => ?_⟩⟩
    rw [hmem, Memory.read_write_other _ _ _ _ hp]

/-! ### Z and N -/

/-- A register written with Z and N from it (R29). -/
theorem nzFrom_setReg_setNZ (s : State) (len k : Nat) (r : Reg) (w : Byte) :
    NZFrom ((((s.advance len).setReg r w).setNZ w).charge k)
      (((((s.advance len).setReg r w).setNZ w).charge k).reg r) := by
  rw [State.reg_charge, State.reg_setNZ, State.reg_setReg_same]
  exact nzFrom_setNZ ((s.advance len).setReg r w) w

/-- R29: "zero and negative are recomputed after every register-affecting operation". -/
theorem Shape.nzFrom_reg {i : Instr} {f : State → State} (h : Shape i f) (s : State) {q : Reg}
    (hq : q ∈ writtenRegs i.descriptor) : NZFrom (f s) ((f s).reg q) := by
  cases h with
  | load r o hd =>
    obtain rfl : q = r := by simpa [hd, writtenRegs] using hq
    exact nzFrom_setReg_setNZ s _ _ q _
  | transfer src dst hd =>
    obtain rfl : q = dst := by simpa [hd, writtenRegs] using hq
    exact nzFrom_setReg_setNZ s _ _ q _
  | logical op o hd =>
    obtain rfl : q = .a := by simpa [hd, writtenRegs] using hq
    exact nzFrom_setReg_setNZ s _ _ .a _
  | incDecRegister dir r hd =>
    obtain rfl : q = r := by simpa [hd, writtenRegs] using hq
    exact nzFrom_setReg_setNZ s _ _ q _
  | adc o hd | shiftAccumulator kind hd =>
    obtain rfl : q = .a := by simpa [hd, writtenRegs] using hq
    exact nzFrom_of_eq rfl rfl
  | shiftMemory kind o hd => simp [hd, writtenRegs_shift_memory] at hq
  | store r o hd | bitTest o hd | incDecMemory dir o hd | setFlag k hd | clearFlag k hd
  | branch k takenWhen rel8 hd | nop hd => simp [hd, writtenRegs] at hq

/-- A byte stored with Z and N from it (R178, R179). -/
theorem nzFrom_stored {s t : State} {p : Addr} {w : Byte} (hmem : t.mem = s.mem.write p w)
    (hz : t.z = isZero w) (hn : t.n = isNegative w) : NZFrom t (t.mem.read p) := by
  rw [hmem, Memory.read_write_same]
  exact nzFrom_of_eq hz hn

/-- The forms that read, change and write a byte: INC, DEC and the memory shifts. -/
theorem Shape.nzFrom_mem {i : Instr} {f : State → State} (h : Shape i f) (s : State)
    (hstores : storesToMemory i.descriptor = true) (hkind : ∀ r, i.descriptor.kind ≠ .store r) :
    ∃ o, memOperand i = some o ∧ NZFrom (f s) ((f s).mem.read (resolveAddr o s).ea) := by
  cases h with
  | incDecMemory dir o hd ho => exact ⟨o, ho, nzFrom_stored rfl rfl rfl⟩
  | shiftMemory kind o hd ho => exact ⟨o, ho, nzFrom_stored rfl rfl rfl⟩
  | store r o hd => exact absurd (congrArg Descriptor.kind hd) (hkind r)
  | load r o hd | transfer src dst hd | adc o hd | logical op o hd | bitTest o hd
  | incDecRegister dir r hd | shiftAccumulator kind hd | setFlag k hd | clearFlag k hd
  | branch k takenWhen rel8 hd | nop hd => simp [hd, storesToMemory] at hstores

/-- Settles O44: each shape that writes a register, or changes a byte, sets Z and N from it. -/
theorem zAndNFollowEveryWrittenRegister : Obligations.ZAndNFollowEveryWrittenRegister := by
  intro i s t hexec
  obtain ⟨f, hshape, rfl⟩ := shape_of_exec hexec
  exact ⟨fun r => hshape.nzFrom_reg s, hshape.nzFrom_mem s⟩

/-! ### The D flag and SP -/

/-- R31: the instructions on D are SED and CLD. -/
theorem namesFlag_d (i : Instr) (hsed : i ≠ .sed) (hcld : i ≠ .cld) : namesFlag i .d = false := by
  cases i with
  | sed => exact absurd rfl hsed
  | cld => exact absurd rfl hcld
  | _ => rfl

/-- The instruction names SP as a register it reads or writes. -/
def namesSp (i : Instr) : Bool :=
  match i.descriptor.kind with
  | .load r | .store r | .incDec _ (.register r) => r == .sp
  | .transfer src dst => src == .sp || dst == .sp
  | _ => false

/-- R24: the instructions on SP are TSX and TXS. -/
theorem namesSp_eq_false (i : Instr) (htsx : i ≠ .tsx) (htxs : i ≠ .txs) : namesSp i = false := by
  cases i with
  | tsx => exact absurd rfl htsx
  | txs => exact absurd rfl htxs
  | _ => rfl

@[simp] theorem resolveAddr_with_sp (o : MemOperand) (s : State) (w : Byte) :
    resolveAddr o { s with sp := w } = resolveAddr o s := by cases o <;> rfl

@[simp] theorem operandValue_with_sp (o : ValueOperand) (s : State) (w : Byte) :
    operandValue o { s with sp := w } = operandValue o s := by cases o <;> simp [operandValue]

@[simp] theorem operandCrossed_with_sp (o : ValueOperand) (s : State) (w : Byte) :
    operandCrossed o { s with sp := w } = operandCrossed o s := by
  cases o <;> simp [operandCrossed]

theorem State.reg_with_sp (s : State) (w : Byte) {r : Reg} (h : r ≠ .sp) :
    { s with sp := w }.reg r = s.reg r := by
  cases r with
  | sp => exact absurd rfl h
  | _ => rfl

theorem State.setReg_with_sp (s : State) (v w : Byte) {r : Reg} (h : r ≠ .sp) :
    { s with sp := w }.setReg r v = { s.setReg r v with sp := w } := by
  cases r with
  | sp => exact absurd rfl h
  | _ => rfl

theorem State.setFlag_with_sp (s : State) (k : Flag) (bit : Bool) (w : Byte) :
    { s with sp := w }.setFlag k bit = { s.setFlag k bit with sp := w } := by cases k <;> rfl

theorem State.flag_with_sp (s : State) (k : Flag) (w : Byte) :
    { s with sp := w }.flag k = s.flag k := by cases k <;> rfl

/-- An operation that does not name SP commutes with a write of it. -/
theorem Shape.sp_comm {i : Instr} {f : State → State} (h : Shape i f) (hn : namesSp i = false)
    (s : State) (w : Byte) : f { s with sp := w } = { f s with sp := w } := by
  cases h with
  | load r o hd =>
    have hr : r ≠ .sp := by simpa [namesSp, hd] using hn
    rw [load_eq, load_eq, operandValue_with_sp, operandCrossed_with_sp, State.setReg_with_sp s _ w hr]
  | store r o hd =>
    have hr : r ≠ .sp := by simpa [namesSp, hd] using hn
    rw [store_eq, store_eq, resolveAddr_with_sp, State.reg_with_sp s w hr]
  | transfer src dst hd =>
    have hboth : src ≠ .sp ∧ dst ≠ .sp := by simpa [namesSp, hd] using hn
    rw [transfer_eq, transfer_eq, State.reg_with_sp s w hboth.1, State.setReg_with_sp s _ w hboth.2]
  | adc o => rw [adc_eq, adc_eq, operandValue_with_sp, operandCrossed_with_sp]
  | logical op o => rw [logical_eq, logical_eq, operandValue_with_sp, operandCrossed_with_sp]
  | bitTest o => rw [bitTest_eq, bitTest_eq, resolveAddr_with_sp]
  | incDecMemory dir o => rw [incDecMemory_eq, incDecMemory_eq, resolveAddr_with_sp]
  | incDecRegister dir r hd =>
    have hr : r ≠ .sp := by simpa [namesSp, hd] using hn
    rw [incDecRegister_eq, incDecRegister_eq, State.reg_with_sp s w hr, State.setReg_with_sp s _ w hr]
  | shiftAccumulator kind => rw [shift_accumulator_eq, shift_accumulator_eq]
  | shiftMemory kind o => rw [shift_memory_eq, shift_memory_eq, resolveAddr_with_sp]
  | setFlag k | clearFlag k => rw [writeFlag_eq, writeFlag_eq, State.setFlag_with_sp]
  | branch k takenWhen rel8 =>
    by_cases ht : s.flag k = takenWhen
    · rw [branch_taken_eq _ _ _ _ ht, branch_taken_eq _ _ _ _ ((s.flag_with_sp k w).trans ht)]
    · rw [branch_not_taken_eq _ _ _ _ ht,
        branch_not_taken_eq _ _ _ _ (by rwa [State.flag_with_sp])]
  | nop => rfl

/-- R24: no instruction but TSX and TXS reads or writes SP. -/
theorem inert_sp (i : Instr) (htsx : i ≠ .tsx) (htxs : i ≠ .txs) :
    Inert State.sp (fun s w => { s with sp := w }) i := by
  obtain ⟨f, hshape, hf⟩ := exec_shape i
  exact inert_of_comm hf (hshape.sp_comm (namesSp_eq_false i htsx htxs)) (fun _ _ => rfl)
    (fun _ => rfl)

/-- R31: no instruction but SED and CLD reads or writes D. -/
theorem inert_d (i : Instr) (hsed : i ≠ .sed) (hcld : i ≠ .cld) :
    Inert State.d (fun s w => { s with d := w }) i :=
  inert_flag (k := .d) (.inr (.inl rfl)) (namesFlag_d i hsed hcld)

/-- Settles O47: an instruction that does not name D, or SP, commutes with a write of it. -/
theorem decimalFlagAndStackPointerAreInert : Obligations.DecimalFlagAndStackPointerAreInert :=
  ⟨inert_d, inert_sp⟩

end Sys2Proof.Machine
end

section
/-! PROOFS. One step (R55, R100, R232, R250 to R253): the instruction whose bytes stand at pc, the accesses it
makes, and what it can observe of memory. -/

namespace Sys2Proof.Machine

open Sys2Proof.Statements

/-! ### The bytes at pc -/

/-- The bytes that a step may fetch: three from pc up, modulo 65536. -/
def State.bytesAtPc (s : State) : List Byte :=
  [s.mem.read s.pc, s.mem.read (s.pc + 1), s.mem.read (s.pc + 2)]

theorem bytesAtPc_getElem? (s : State) {k : Nat} (hk : k < 3) :
    s.bytesAtPc[k]? = some (s.mem.read (s.pc + BitVec.ofNat 16 k)) := by
  match k with
  | 0 => exact congrArg (some <| s.mem.read ·) (BitVec.add_zero s.pc).symm
  | 1 | 2 => rfl

/-- The step decodes the bytes at pc: three are enough for every instruction (R80). -/
theorem fetchInstr_eq_some_iff_decode {s : State} {i : Instr} :
    s.fetchInstr = some i ↔ ∃ rest, decode s.bytesAtPc = .instr i rest := by
  cases hform : lookup (s.mem.read s.pc) with
  | none => simp [State.bytesAtPc, decode_of_noEntry hform, (fetchInstr_none s).mpr hform]
  | some form =>
    have hlen : ¬2 < form.operandBytes := by cases form <;> simp [Form.operandBytes]
    simp [State.bytesAtPc, decode_of_entry hform, fetchInstr_some s form hform, hlen]

theorem fetchInstr_eq_some_iff {s : State} {i : Instr} :
    s.fetchInstr = some i ↔ encode i <+: s.bytesAtPc := by
  rw [fetchInstr_eq_some_iff_decode]
  exact exists_congr fun rest => decode_eq_instr_iff.trans eq_comm

/-- Settles O5: the instruction that the bytes at pc decode to is the one that the step fetches. -/
theorem stepRunsDecodedInstruction : Obligations.StepRunsDecodedInstruction :=
  fun s i rest hfault hdecode =>
    step_exec s i hfault (fetchInstr_eq_some_iff_decode.mpr ⟨rest, hdecode⟩)

/-- Settles O12: the byte stored at pc + 3 is where the store leaves pc, and E8 is INX. -/
theorem storedByteIsFetchedNext : Obligations.StoredByteIsFetchedNext := by
  intro s hfault ha
  refine ⟨store .a (.absolute (s.pc + 3)) s, rfl, step_exec _ _ hfault ?_⟩
  have hop : (store .a (.absolute (s.pc + 3)) s).mem.read (s.pc + 3) = 0xE8 :=
    (Memory.read_write_same s.mem (s.pc + 3) s.a).trans ha
  exact fetchInstr_some _ (.f1 .inx) (by rw [store_eq] at hop ⊢; exact hop ▸ rfl)

/-! ### The exception and the latch -/

/-- Settles O6: the step takes the exception, which leaves the rest as it was. -/
theorem stepRaisesUnknownOpcode : Obligations.StepRaisesUnknownOpcode := by
  intro s hfault habsent
  have hnone := (fetchInstr_none s).mpr ((lookup_eq_none_iff_mem_absentBytes _).mpr habsent)
  exact ⟨_, step_raises s hfault hnone, pc_advance_toNat s 1, rfl, fun r _ => s.reg_raise r,
    fun k _ => s.flag_raise k, fun _ => rfl, rfl⟩

theorem execute_latched {s : State} {e : UnknownOpcode} (h : s.fault = some e) (n : Nat) :
    execute n s = s := by simp [execute, h]

/-- No command but reset writes a latch that is set (R253). -/
theorem runCommand_keeps_latch {s : State} {e : UnknownOpcode} (h : s.fault = some e)
    (cmd : Command) (hreset : cmd ≠ .reset) : (runCommand cmd s).1.fault = some e := by
  cases cmd with
  | reset => exact absurd rfl hreset
  | execute n => exact (congrArg State.fault (execute_latched h n)).trans h
  | setRegister r value =>
    cases r with
    | data r => exact (s.fault_setReg r _).trans h
    | pc => exact h
  | setStatus k bit => exact (s.fault_setFlag k bit).trans h
  | setMemory p value => exact h
  | getRegister r | getStatus k | getMemory p | getProgramCounter => exact h

/-- Settles O8: `execute` is refused, the setters write one item, reset clears the latch. -/
theorem latchedMachineDoesNothing : Obligations.LatchedMachineDoesNothing := by
  intro s e h
  refine ⟨fun n => ?refused, runCommand_keeps_latch h, rfl, fun _ => rfl, rfl, fun _ => rfl,
    fun _ => rfl, rfl, step_latched s e h⟩
  case refused => simp [runCommand, execute_latched h, executeReply, h]

/-! ### Accesses -/

/-- The data accesses of an instruction: those of its kind, where it has a memory operand (R55). -/
def operandAccesses (i : Instr) (s : State) : List Access :=
  match memOperand i with
  | some o => dataAccesses i.descriptor.kind (resolveAddr o s).ea
  | none => []

theorem instrAccesses_eq (i : Instr) (s : State) :
    instrAccesses i s = fetches s.pc i.length ++ operandAccesses i s := rfl

theorem dataAccesses_no_fetch (kind : Kind) (ea p : Addr) :
    Access.fetch p ∉ dataAccesses kind ea := by cases kind <;> simp [dataAccesses]

theorem operandAccesses_no_fetch (i : Instr) (s : State) (p : Addr) :
    Access.fetch p ∉ operandAccesses i s := by
  unfold operandAccesses
  split
  · exact dataAccesses_no_fetch _ _ p
  · simp

/-- An instruction with a memory operand reads and writes there as its kind says (R55). -/
theorem Shape.mem_dataAccesses_iff {i : Instr} {f : State → State} (h : Shape i f)
    {o : MemOperand} (ho : memOperand i = some o) (ea p : Addr) :
    (Access.read p ∈ dataAccesses i.descriptor.kind ea ↔
        readsMemory i.descriptor = true ∧ p = ea) ∧
      (Access.write p ∈ dataAccesses i.descriptor.kind ea ↔
        storesToMemory i.descriptor = true ∧ p = ea) := by
  have hnone : memOperand i ≠ none := by simp [ho]
  cases h with
  | load r q hd hq =>
    cases q with
    | immediate v => exact absurd hq.1 hnone
    | memory q =>
      simp [hd, dataAccesses, storesToMemory, ValueOperand.mode, (readsMemory_of_memory q).1]
  | adc q hd hq =>
    cases q with
    | immediate v => exact absurd hq.1 hnone
    | memory q =>
      simp [hd, dataAccesses, storesToMemory, ValueOperand.mode, (readsMemory_of_memory q).2.1]
  | logical op q hd hq =>
    cases q with
    | immediate v => exact absurd hq.1 hnone
    | memory q =>
      simp [hd, dataAccesses, storesToMemory, ValueOperand.mode, (readsMemory_of_memory q).2.2]
  | shiftMemory kind q hd =>
    simp [hd, dataAccesses, shift_readsMemory_storesToMemory kind q]
  | store r q hd | bitTest q hd | incDecMemory dir q hd =>
    simp [hd, dataAccesses, readsMemory, storesToMemory]
  | transfer src dst hd hq | incDecRegister dir r hd hq | shiftAccumulator kind hd hq
  | setFlag k hd hq | clearFlag k hd hq | nop hd hq => exact absurd hq hnone
  | branch k takenWhen rel8 hd hq => exact absurd hq.1 hnone

theorem read_mem_operandAccesses_iff (i : Instr) (s : State) (p : Addr) :
    Access.read p ∈ operandAccesses i s ↔
      readsMemory i.descriptor = true ∧ ∃ o, memOperand i = some o ∧ p = (resolveAddr o s).ea := by
  obtain ⟨f, hshape, _⟩ := exec_shape i
  cases ho : memOperand i with
  | none => simp [operandAccesses, ho]
  | some o => simp [operandAccesses, ho, hshape.mem_dataAccesses_iff ho]

theorem write_mem_operandAccesses_iff (i : Instr) (s : State) (p : Addr) :
    Access.write p ∈ operandAccesses i s ↔
      storesToMemory i.descriptor = true ∧
        ∃ o, memOperand i = some o ∧ p = (resolveAddr o s).ea := by
  obtain ⟨f, hshape, _⟩ := exec_shape i
  cases ho : memOperand i with
  | none => simp [operandAccesses, ho]
  | some o => simp [operandAccesses, ho, hshape.mem_dataAccesses_iff ho]

section
variable {s : State} {i : Instr} (hfault : s.fault = none) (hi : s.fetchInstr = some i)
include hfault hi

theorem stepAccesses_eq : stepAccesses s = fetches s.pc i.length ++ operandAccesses i s :=
  (stepAccesses_instr s i hfault hi).trans (instrAccesses_eq i s)

/-- R56: the bytes of the instruction are fetched, from pc up modulo 65536, and no other. -/
theorem fetch_mem_stepAccesses_iff (p : Addr) :
    Access.fetch p ∈ stepAccesses s ↔
      ∃ k, k < i.length ∧ p.toNat = (s.pc.toNat + k) % 65536 := by
  rw [stepAccesses_eq hfault hi, List.mem_append, fetch_mem_fetches]
  exact or_iff_left (operandAccesses_no_fetch i s p)

theorem read_mem_stepAccesses_iff (p : Addr) :
    Access.read p ∈ stepAccesses s ↔
      readsMemory i.descriptor = true ∧ ∃ o, memOperand i = some o ∧ p = (resolveAddr o s).ea := by
  rw [stepAccesses_eq hfault hi, List.mem_append, read_mem_operandAccesses_iff]
  exact or_iff_right (read_not_mem_fetches s.pc p _)

theorem write_mem_stepAccesses_iff (p : Addr) :
    Access.write p ∈ stepAccesses s ↔
      storesToMemory i.descriptor = true ∧
        ∃ o, memOperand i = some o ∧ p = (resolveAddr o s).ea := by
  rw [stepAccesses_eq hfault hi, List.mem_append, write_mem_operandAccesses_iff]
  exact or_iff_right (write_not_mem_fetches s.pc p _)

/-- The instruction changes no byte that it does not write (R55). -/
theorem read_of_write_not_mem_stepAccesses {f : State → State} (h : Shape i f) {p : Addr}
    (hp : Access.write p ∉ stepAccesses s) : (f s).mem.read p = s.mem.read p := by
  obtain ⟨_, hmem⟩ | ⟨hstores, o, w, ho, hmem⟩ := h.mem_cases s
  · rw [hmem]
  · have hne : p ≠ (resolveAddr o s).ea := fun hea =>
      hp ((write_mem_stepAccesses_iff hfault hi p).mpr ⟨hstores, o, ho, hea⟩)
    rw [hmem, Memory.read_write_other _ _ _ _ hne]

end

/-- Settles O10: the accesses of the instruction at pc, and the one byte it may write. -/
theorem stepWritesOnlyItsAccesses : Obligations.StepWritesOnlyItsAccesses := by
  intro s t hstep
  obtain ⟨hfault, hcases⟩ := step_inversion hstep
  refine ⟨fun p hp => ?kept, stepAccesses_noEntry s hfault, fun i hi => ?_⟩
  case kept =>
    obtain ⟨_, rfl⟩ | ⟨i, f, hi, hshape, rfl⟩ := hcases
    · rfl
    · exact read_of_write_not_mem_stepAccesses hfault hi hshape hp
  exact ⟨stepAccesses_eq hfault hi, fetch_mem_stepAccesses_iff hfault hi,
    read_mem_stepAccesses_iff hfault hi, write_mem_stepAccesses_iff hfault hi⟩

/-! ### Two memories that agree on what a step reads -/

theorem isPrefix_of_getElem?_eq {l bytes bytes' : List Byte} (h : l <+: bytes)
    (hagree : ∀ k, k < l.length → bytes'[k]? = bytes[k]?) : l <+: bytes' := by
  rw [List.prefix_iff_getElem?] at h ⊢
  intro k hk
  rw [hagree k hk, h k hk]

/-- The instruction at pc is determined by its own bytes (R87). -/
theorem fetchInstr_with_mem {s : State} {i : Instr} (hi : s.fetchInstr = some i) {m : Memory}
    (hfetch : ∀ k, k < i.length →
      m.read (s.pc + BitVec.ofNat 16 k) = s.mem.read (s.pc + BitVec.ofNat 16 k)) :
    { s with mem := m }.fetchInstr = some i := by
  have hlen := (mode_length_range i.descriptor.mode).2
  rw [← length_eq_mode_length] at hlen
  rw [fetchInstr_eq_some_iff] at hi ⊢
  refine isPrefix_of_getElem?_eq hi fun k hk => ?_
  have hk : k < i.length := hk
  rw [bytesAtPc_getElem? _ (by omega), bytesAtPc_getElem? _ (by omega)]
  exact congrArg some (hfetch k hk)

/-- A memory that holds the same bytes where the step fetches or reads (R55). -/
def SameFetchedAndRead (s : State) (m : Memory) : Prop :=
  ∀ p, Access.fetch p ∈ stepAccesses s ∨ Access.read p ∈ stepAccesses s → m.read p = s.mem.read p

/-- From the other memory the step answers the same state but for memory, and there the bytes that it writes
are the same too. -/
def SameStepButMemory (s : State) (m : Memory) : Prop :=
  ∃ t m', step s = .next t ∧ step { s with mem := m } = .next { t with mem := m' } ∧
    ∀ p, (Access.write p ∈ stepAccesses s → m'.read p = t.mem.read p) ∧
      (Access.write p ∉ stepAccesses s → m'.read p = m.read p)

theorem step_with_mem_of_noEntry {s : State} {m : Memory} (hfault : s.fault = none)
    (hi : s.fetchInstr = none) (hagree : SameFetchedAndRead s m) : SameStepButMemory s m := by
  have hacc := stepAccesses_noEntry s hfault hi
  have hop : m.read s.pc = s.mem.read s.pc := hagree s.pc (.inl (by simp [hacc, fetches]))
  have hi' : { s with mem := m }.fetchInstr = none := by
    rw [fetchInstr_none] at hi ⊢
    rwa [hop]
  refine ⟨_, m, step_raises s hfault hi, ?_, fun p => ⟨fun hp => ?written, fun _ => rfl⟩⟩
  case written => simp [hacc, fetches] at hp
  rw [step_raises { s with mem := m } hfault hi', State.raiseUnknownOpcode, hop]
  rfl

theorem step_with_mem_of_instr {s : State} {m : Memory} {i : Instr} (hfault : s.fault = none)
    (hi : s.fetchInstr = some i) (hagree : SameFetchedAndRead s m) : SameStepButMemory s m := by
  obtain ⟨f, hshape, hf⟩ := exec_shape i
  have hi' : { s with mem := m }.fetchInstr = some i := fetchInstr_with_mem hi fun k hk =>
    hagree _ (.inl ((fetch_mem_stepAccesses_iff hfault hi _).mpr ⟨k, hk, pc_advance_toNat s k⟩))
  have hread : SameDataRead i s m := fun hreads o ho =>
    hagree _ (.inr ((read_mem_stepAccesses_iff hfault hi _).mpr ⟨hreads, o, ho, rfl⟩))
  have hstep := (step_exec s i hfault hi).trans (hf s)
  have hstep' := (step_exec { s with mem := m } i hfault hi').trans (hf { s with mem := m })
  have hwrite := write_mem_stepAccesses_iff hfault hi
  cases hshape.memoryEffect s m hread with
  | keeps hstores hrun =>
    rw [hrun] at hstep'
    refine ⟨f s, m, hstep, hstep', fun p => ⟨fun hp => ?written, fun _ => rfl⟩⟩
    case written => exact absurd ((hwrite p).mp hp).1 (by simp [hstores])
  | writes hstores o ho w hmem hrun =>
    rw [hrun] at hstep'
    refine ⟨f s, _, hstep, hstep', fun p => ⟨fun hp => ?written, fun hp => ?kept⟩⟩
    case written =>
      obtain ⟨_, q, hq, rfl⟩ := (hwrite p).mp hp
      obtain rfl : o = q := Option.some.inj (ho.symm.trans hq)
      rw [hmem, Memory.read_write_same, Memory.read_write_same]
    case kept =>
      have hne : p ≠ (resolveAddr o s).ea := fun hea => hp ((hwrite p).mpr ⟨hstores, o, ho, hea⟩)
      exact Memory.read_write_other _ _ _ _ hne

/-- Settles O11: the fetched bytes give the same instruction, the byte read the same effect. -/
theorem stepDependsOnlyOnBytesItReads : Obligations.StepDependsOnlyOnBytesItReads := by
  intro s m hfault hagree
  have hsame : SameStepButMemory s m := by
    cases hi : s.fetchInstr with
    | none => exact step_with_mem_of_noEntry hfault hi hagree
    | some i => exact step_with_mem_of_instr hfault hi hagree
  obtain ⟨t, m', hstep, hstep', hmem⟩ := hsame
  exact ⟨t, _, hstep, hstep', fun r _ => t.reg_with_mem r m', fun k _ => t.flag_with_mem k m',
    rfl, rfl, rfl, hmem⟩

end Sys2Proof.Machine
end

section
/-! PROOFS. The spec's own pseudocode (R100 to R114, R232): fetching byte by byte, it resolves the operand that
the decoder built and runs the same operation. -/

namespace Sys2Proof.Machine

/-! ### The operand bytes -/

/-- The operand bytes of a memory operand, in fetch order (R53, R83). -/
def MemOperand.bytes : MemOperand → List Byte
  | .zeroPage zp8 | .zeroPageX zp8 | .zeroPageY zp8 => [zp8]
  | .absolute addr16 | .absoluteX addr16 | .absoluteY addr16 => addrBytes addr16

/-- The operand bytes of a load-style operand (R83, R105). -/
def ValueOperand.bytes : ValueOperand → List Byte
  | .immediate imm8 => [imm8]
  | .memory o => o.bytes

theorem MemOperand.length_bytes (o : MemOperand) : o.bytes.length + 1 = o.mode.length := by
  cases o <;> rfl

theorem ValueOperand.length_bytes (o : ValueOperand) : o.bytes.length + 1 = o.mode.length := by
  cases o with
  | immediate v => rfl
  | memory o => exact o.length_bytes

/-- The memory operand of an instruction is made of its operand bytes. -/
theorem bytes_of_memOperand {i : Instr} {o : MemOperand} (h : memOperand i = some o) :
    o.bytes = (encode i).tail := by
  unfold memOperand at h
  split at h
  case h_7 => cases h
  all_goals
    rename_i htail
    cases h
    simp [MemOperand.bytes, addrBytes, htail]

theorem Reads.bytes_eq {i : Instr} {o : ValueOperand} (h : Reads i o) :
    o.bytes = (encode i).tail := by
  cases o with
  | immediate v => exact h.2.symm
  | memory o => exact bytes_of_memOperand h

/-! ### Fetching the operand -/

/-- These bytes stand from pc up. -/
def StandAt (bytes : List Byte) (s : State) : Prop :=
  bytes <+: [s.mem.read s.pc, s.mem.read (s.pc + 1)]

theorem standAt_one {v : Byte} {s : State} : StandAt [v] s ↔ v = s.mem.read s.pc := by
  simp [StandAt]

theorem standAt_addrBytes {a : Addr} {s : State} :
    StandAt (addrBytes a) s ↔ a = joinBytes (s.mem.read (s.pc + 1)) (s.mem.read s.pc) := by
  constructor
  · intro h
    have hbytes : loByte a = s.mem.read s.pc ∧ hiByte a = s.mem.read (s.pc + 1) := by
      simpa [StandAt, addrBytes] using h
    rw [← hbytes.1, ← hbytes.2, joinBytes_hi_lo]
  · rintro rfl
    simp [StandAt, addrBytes]

theorem fetch8_snd (s : State) : s.fetch8.2 = s.advance 1 := rfl

theorem advance_advance (s : State) (j k : Nat) :
    (s.advance j).advance k = s.advance (j + k) := by
  simp [State.advance, BitVec.add_assoc, BitVec.ofNat_add]

theorem ofNat_eq_joinBytes (hi lo : Byte) :
    BitVec.ofNat 16 (hi.toNat * 256 + lo.toNat) = joinBytes hi lo := by
  rw [← joinBytes_toNat, BitVec.ofNat_toNat, BitVec.setWidth_eq]

/-- R110, R111: the sum and its carry from the two fetched bytes. -/
theorem indexAbsolute_joinBytes (hi lo index : Byte) :
    (BitVec.ofNat 16 ((hi.toNat * 256 + lo.toNat + index.toNat) % 65536) =
      (indexAbsolute (joinBytes hi lo) index).ea) ∧
    decide (lo.toNat + index.toNat > 255) = (indexAbsolute (joinBytes hi lo) index).crossed := by
  rw [indexAbsolute_ea, joinBytes_toNat, indexAbsolute_joinBytes_crossed]
  exact ⟨rfl, rfl⟩

/-- R106 to R111, fetched and computed with `mod`, are the resolver on the decoded operand. -/
theorem pseudocode_resolveAddr_eq {o : MemOperand} {s : State} (h : StandAt o.bytes s) :
    Pseudocode.resolveAddr o.mode s =
      some (((resolveAddr o s).ea, (resolveAddr o s).crossed), s.advance o.bytes.length) := by
  have htwo : s.fetch8.2.fetch8.2 = s.advance 2 := advance_advance s 1 1
  cases o with
  | zeroPage v =>
    obtain rfl := standAt_one.mp h
    exact congrArg (fun ea => some ((ea, false), s.advance 1)) (BitVec.ofNat_toNat 16 _)
  | zeroPageX v =>
    obtain rfl := standAt_one.mp h
    exact congrArg (fun ea => some ((ea, false), s.advance 1)) (indexZeroPage_ea _ s.x).symm
  | zeroPageY v =>
    obtain rfl := standAt_one.mp h
    exact congrArg (fun ea => some ((ea, false), s.advance 1)) (indexZeroPage_ea _ s.y).symm
  | absolute a =>
    obtain rfl := standAt_addrBytes.mp h
    simp only [MemOperand.mode, Pseudocode.resolveAddr, htwo, fetch8_fst, State.mem_fetch8,
      State.pc_fetch8, ofNat_eq_joinBytes]
    rfl
  | absoluteX a =>
    obtain rfl := standAt_addrBytes.mp h
    have hindex := indexAbsolute_joinBytes (s.mem.read (s.pc + 1)) (s.mem.read s.pc) s.x
    simp only [MemOperand.mode, Pseudocode.resolveAddr, htwo, fetch8_fst, State.mem_fetch8,
      State.pc_fetch8, State.x_advance, hindex]
    rfl
  | absoluteY a =>
    obtain rfl := standAt_addrBytes.mp h
    have hindex := indexAbsolute_joinBytes (s.mem.read (s.pc + 1)) (s.mem.read s.pc) s.y
    simp only [MemOperand.mode, Pseudocode.resolveAddr, htwo, fetch8_fst, State.mem_fetch8,
      State.pc_fetch8, State.y_advance, hindex]
    rfl

/-- R105, R114: the value is the immediate byte, or the byte at the effective address. -/
theorem pseudocode_resolveValue_eq {o : ValueOperand} {s : State} (h : StandAt o.bytes s) :
    Pseudocode.resolveValue o.mode s =
      some ((operandValue o s, operandCrossed o s), s.advance o.bytes.length) := by
  cases o with
  | immediate v =>
    obtain rfl := standAt_one.mp h
    rfl
  | memory o =>
    have haddr := pseudocode_resolveAddr_eq (o := o) h
    cases o <;> simp only [MemOperand.mode, ValueOperand.mode, Pseudocode.resolveValue] at haddr ⊢ <;>
      rw [haddr] <;> rfl

/-! ### Executing -/

theorem resolveAddr_advance (o : MemOperand) (s : State) (k : Nat) :
    resolveAddr o (s.advance k) = resolveAddr o s := by cases o <;> rfl

theorem operandValue_advance (o : ValueOperand) (s : State) (k : Nat) :
    operandValue o (s.advance k) = operandValue o s := by
  cases o with
  | immediate v => rfl
  | memory o => simp [operandValue, resolveAddr_advance]

theorem operandCrossed_advance (o : ValueOperand) (s : State) (k : Nat) :
    operandCrossed o (s.advance k) = operandCrossed o s := by
  cases o with
  | immediate v => rfl
  | memory o => simp [operandCrossed, resolveAddr_advance]

/-- After the opcode byte, the operand in memory: the resolver's address, and pc past the instruction. -/
theorem pseudocode_resolveAddr_fetched {o : MemOperand} {s : State}
    (h : StandAt o.bytes (s.advance 1)) :
    Pseudocode.resolveAddr o.mode (s.advance 1) =
      some (((resolveAddr o s).ea, (resolveAddr o s).crossed), s.advance o.mode.length) := by
  rw [pseudocode_resolveAddr_eq h, resolveAddr_advance, advance_advance, Nat.add_comm,
    o.length_bytes]

theorem pseudocode_resolveValue_fetched {o : ValueOperand} {s : State}
    (h : StandAt o.bytes (s.advance 1)) :
    Pseudocode.resolveValue o.mode (s.advance 1) =
      some ((operandValue o s, operandCrossed o s), s.advance o.mode.length) := by
  rw [pseudocode_resolveValue_eq h, operandValue_advance, operandCrossed_advance, advance_advance,
    Nat.add_comm, o.length_bytes]

/-- R207: the target of the pseudocode is that of `branch`. -/
theorem pseudocode_branchTarget (next : Addr) (d : Byte) :
    BitVec.ofInt 16 (next.toNat + d.toInt) = next + signExtend16 d := by
  refine BitVec.eq_of_toNat_eq (Int.natCast_inj.mp ?_)
  rw [toNat_ofInt_eq_emod, branchTarget_toNat]
  rfl

/-- R207, R233: its cost and page cross too. -/
theorem pseudocode_branchCost (target next : Addr) :
    3 + (decide (target.toNat / 256 ≠ next.toNat / 256)).toNat =
      branchCost true (pagesDiffer target next) := by
  rw [show pagesDiffer target next = decide (target.toNat / 256 ≠ next.toNat / 256) from
    Bool.eq_iff_iff.mpr ((pagesDiffer_iff target next).trans decide_eq_true_iff.symm)]
  cases decide (target.toNat / 256 ≠ next.toNat / 256) <;> rfl

/-- R179 with its operand in memory. -/
theorem pseudocode_exec_shift_memory (kind : ShiftKind) {o : MemOperand} {s t : State} {ea : Addr}
    {crossed : Bool} (h : Pseudocode.resolveAddr o.mode s = some ((ea, crossed), t)) :
    Pseudocode.exec ⟨.shift kind, o.mode⟩ s =
      some (cost .shiftRotate o.mode crossed,
        ((t.memWrite ea (shift8 kind (t.mem.read ea) t.c).result).setFlag .c
          (shift8 kind (t.mem.read ea) t.c).carry).setNZ
          (shift8 kind (t.mem.read ea) t.c).result) := by
  cases o <;> simp only [MemOperand.mode, Pseudocode.exec] at h ⊢ <;> rw [h]

/-- The Operation of the descriptor's family, with the operand bytes at pc, is the shared operation of the
instruction's shape, the charge aside. -/
theorem Shape.pseudocode_exec {i : Instr} {f : State → State} (h : Shape i f) {s : State}
    (hbytes : StandAt (encode i).tail (s.advance 1)) :
    ∃ k u, Pseudocode.exec i.descriptor (s.advance 1) = some (k, u) ∧ f s = u.charge k := by
  cases h with
  | load r o hd ho =>
    rw [← ho.bytes_eq] at hbytes
    simp only [hd, Pseudocode.exec, pseudocode_resolveValue_fetched hbytes]
    exact ⟨_, _, rfl, rfl⟩
  | store r o hd ho =>
    rw [← bytes_of_memOperand ho] at hbytes
    simp only [hd, Pseudocode.exec, pseudocode_resolveAddr_fetched hbytes, State.reg_advance]
    exact ⟨_, _, rfl, rfl⟩
  | transfer src dst hd =>
    simp only [hd, Pseudocode.exec, State.reg_setReg_same, State.reg_advance]
    exact ⟨_, _, rfl, rfl⟩
  | adc o hd ho =>
    rw [← ho.bytes_eq] at hbytes
    simp only [hd, Pseudocode.exec, pseudocode_resolveValue_fetched hbytes]
    exact ⟨_, _, rfl, rfl⟩
  | logical op o hd ho =>
    rw [← ho.bytes_eq] at hbytes
    simp only [hd, Pseudocode.exec, pseudocode_resolveValue_fetched hbytes]
    exact ⟨_, _, rfl, rfl⟩
  | bitTest o hd ho =>
    rw [← bytes_of_memOperand ho] at hbytes
    have hvalue := pseudocode_resolveValue_fetched (o := .memory o) hbytes
    simp only [ValueOperand.mode] at hvalue
    simp only [hd, Pseudocode.exec, hvalue]
    exact ⟨_, _, rfl, rfl⟩
  | incDecMemory dir o hd ho =>
    rw [← bytes_of_memOperand ho] at hbytes
    simp only [hd, Pseudocode.exec, pseudocode_resolveAddr_fetched hbytes]
    exact ⟨_, _, rfl, rfl⟩
  | incDecRegister dir r hd =>
    simp only [hd, Pseudocode.exec, State.reg_advance]
    exact ⟨_, _, rfl, rfl⟩
  | shiftAccumulator kind hd =>
    simp only [hd, Pseudocode.exec]
    exact ⟨_, _, rfl, rfl⟩
  | shiftMemory kind o hd ho =>
    rw [← bytes_of_memOperand ho] at hbytes
    rw [hd, pseudocode_exec_shift_memory kind (pseudocode_resolveAddr_fetched hbytes),
      cost_of_not_charged rfl, ← cost_not_crossed]
    exact ⟨_, _, rfl, rfl⟩
  | setFlag k hd | clearFlag k hd | nop hd =>
    simp only [hd, Pseudocode.exec]
    exact ⟨_, _, rfl, rfl⟩
  | branch k takenWhen rel8 hd ho =>
    rw [ho.2] at hbytes
    obtain rfl := standAt_one.mp hbytes
    have hnext : (s.advance 1).fetch8.2 = s.advance 2 := advance_advance s 1 1
    simp only [hd, Pseudocode.exec, hnext, fetch8_fst, State.flag_advance, pseudocode_branchTarget,
      pseudocode_branchCost]
    by_cases ht : s.flag k = takenWhen
    · simp only [ht, if_true]
      exact ⟨_, _, rfl, branch_taken_eq _ _ _ _ ht⟩
    · simp only [ht, if_false]
      exact ⟨_, _, rfl, branch_not_taken_eq _ _ _ _ ht⟩

/-! ### The step -/

/-- R85: the operand bytes do not matter for the descriptor. -/
theorem descriptor_build_of_mem_opTable :
    ∀ row ∈ opTable, ∀ first second,
      (row.form.build first second).descriptor = (row.form.build 0 0).descriptor := by
  rw [← List.forall_iff_forall_mem]
  and_intros <;> intro first second <;> rfl

/-- R101: the opcode byte alone gives the descriptor of the instruction that stands at pc. -/
theorem descriptorOf_of_fetchInstr {s : State} {i : Instr} (hi : s.fetchInstr = some i) :
    descriptorOf (s.mem.read s.pc) = some i.descriptor := by
  obtain ⟨form, hform, rfl⟩ := Option.map_eq_some_iff.mp hi
  obtain ⟨row, hfind, rfl⟩ := Option.map_eq_some_iff.mp hform
  rw [descriptorOf, hform, Option.map_some]
  exact congrArg some
    (descriptor_build_of_mem_opTable row (List.mem_of_find?_eq_some hfind) _ _).symm

/-- The operand bytes of the instruction at pc follow its opcode byte. -/
theorem standAt_tail_of_fetchInstr {s : State} {i : Instr} (hi : s.fetchInstr = some i) :
    StandAt (encode i).tail (s.advance 1) := by
  have hprefix := fetchInstr_eq_some_iff.mp hi
  obtain ⟨op, tail, hcons⟩ := List.exists_cons_of_ne_nil (encode_ne_nil i)
  have htwo : s.pc + BitVec.ofNat 16 1 + 1 = s.pc + 2 := BitVec.add_assoc ..
  rw [hcons, State.bytesAtPc, List.cons_prefix_cons] at hprefix
  rw [StandAt, State.pc_advance, htwo, hcons]
  exact hprefix.2

theorem pseudocode_step_of_fetchInstr {s : State} {i : Instr} {f : State → State}
    (h : Shape i f) (hi : s.fetchInstr = some i) : Pseudocode.step s = some (f s) := by
  obtain ⟨k, u, hexec, hf⟩ := h.pseudocode_exec (standAt_tail_of_fetchInstr hi)
  simp only [Pseudocode.step, fetch8_fst, fetch8_snd, descriptorOf_of_fetchInstr hi, hexec, hf]
  rfl

theorem pseudocode_step_of_noEntry {s : State} (hi : s.fetchInstr = none) :
    Pseudocode.step s = some s.raiseUnknownOpcode := by
  have hdesc := descriptorOf_eq_none.mpr ((fetchInstr_none s).mp hi)
  simp only [Pseudocode.step, fetch8_fst, hdesc]
  rfl

/-- Settles O9: both designs raise the exception at a byte without an entry, and run the same operation
otherwise. -/
theorem stepIsTheSpecsPseudocode : Obligations.StepIsTheSpecsPseudocode := by
  intro s hfault
  cases hi : s.fetchInstr with
  | none => exact ⟨_, pseudocode_step_of_noEntry hi, step_raises s hfault hi⟩
  | some i =>
    obtain ⟨f, hshape, hstep⟩ := step_of_fetchInstr hfault hi
    exact ⟨f s, pseudocode_step_of_fetchInstr hshape hi, hstep⟩

end Sys2Proof.Machine
end

section
/-! PROOFS. The loop of `execute` (R231, R235 to R238): each step is the exception, which ends the loop, or an
instruction, which charges its cost. -/

namespace Sys2Proof.Machine

open Sys2Proof.Statements

/-! ### One turn of the loop -/

/-- What a step does to the budget: the exception leaves it and sets the latch, an instruction charges 2 to
7 and leaves the latch clear. -/
theorem step_charges {s : State} (h : s.fault = none) :
    ∃ t, step s = .next t ∧ ((t.fault ≠ none ∧ t.cyc = s.cyc) ∨
      (t.fault = none ∧ t.cyc + 2 ≤ s.cyc ∧ s.cyc ≤ t.cyc + 7)) := by
  obtain ⟨t, hstep⟩ := step_next s h
  refine ⟨t, hstep, ?_⟩
  obtain ⟨_, ⟨_, rfl⟩ | ⟨i, f, _, hshape, rfl⟩⟩ := step_inversion hstep
  · exact .inl ⟨nofun, rfl⟩
  · obtain ⟨k, ⟨hlow, hhigh⟩, hcyc⟩ := hshape.charges s
    exact .inr ⟨(hshape.keeps_fault s).trans h, by omega, by omega⟩

/-- An induction over the turns of the loop from a state with the latch clear: the budget is used up, or a
step raises the exception and ends it, or an instruction completes and the loop goes on. -/
theorem runLoop_induction {motive : Nat → State → State → Prop}
    (done : ∀ fuel s, s.fault = none → s.cyc ≤ 0 → motive fuel s s)
    (raised : ∀ fuel s t, s.fault = none → 0 < s.cyc → step s = .next t → t.fault ≠ none →
      t.cyc = s.cyc → motive (fuel + 1) s t)
    (completed : ∀ fuel s t u, s.fault = none → 0 < s.cyc → step s = .next t → t.fault = none →
      t.cyc + 2 ≤ s.cyc → s.cyc ≤ t.cyc + 7 → motive fuel t u → motive (fuel + 1) s u)
    (fuel : Nat) (s : State) (hfault : s.fault = none) (hfuel : s.cyc ≤ fuel) :
    motive fuel s (runLoop fuel s) := by
  induction fuel generalizing s with
  | zero => exact done 0 s hfault hfuel
  | succ fuel ih =>
    by_cases hcyc : 0 < s.cyc
    · obtain ⟨t, hstep, ⟨ht, hkept⟩ | ⟨ht, hlow, hhigh⟩⟩ := step_charges hfault
      · rw [runLoop_step fuel s t hcyc hstep, runLoop_latched fuel t ht]
        exact raised fuel s t hfault hcyc hstep ht hkept
      · rw [runLoop_step fuel s t hcyc hstep]
        exact completed fuel s t _ hfault hcyc hstep ht hlow hhigh (ih t ht (by omega))
    · rw [runLoop_done _ s (not_lt.mp hcyc)]
      exact done _ s hfault (not_lt.mp hcyc)

/-! ### The fuel -/

/-- More fuel than the budget changes nothing (R236). -/
theorem runLoop_succ (fuel : Nat) (s : State) (hfuel : s.cyc ≤ fuel) :
    runLoop (fuel + 1) s = runLoop fuel s := by
  cases hfault : s.fault with
  | some e => rw [runLoop_latched _ s (by simp [hfault]), runLoop_latched _ s (by simp [hfault])]
  | none =>
    refine runLoop_induction (motive := fun fuel s u => runLoop (fuel + 1) s = u) ?done ?raised
      ?completed fuel s hfault hfuel
    case done => exact fun fuel s _ hcyc => runLoop_done _ s hcyc
    case raised =>
      intro fuel s t _ hcyc hstep ht _
      rw [runLoop_step _ s t hcyc hstep, runLoop_latched _ t ht]
    case completed =>
      intro fuel s t u _ hcyc hstep _ _ _ ih
      rw [runLoop_step _ s t hcyc hstep, ih]

theorem runLoop_add (fuel extra : Nat) (s : State) (hfuel : s.cyc ≤ fuel) :
    runLoop (fuel + extra) s = runLoop fuel s := by
  induction extra with
  | zero => rfl
  | succ extra ih =>
    rw [← ih]
    exact runLoop_succ (fuel + extra) s (by omega)

/-! ### `execute` -/

theorem execute_eq {s : State} (h : s.fault = none) (n : Nat) :
    execute n s = runLoop n { s with cyc := n } := by simp [execute, h]

/-- `execute` of the budget that is left goes on with the loop (R231). -/
theorem execute_left {t : State} (h : t.fault = none) (hcyc : 0 ≤ t.cyc) {fuel : Nat}
    (hfuel : t.cyc ≤ fuel) : execute t.cyc.toNat t = runLoop fuel t := by
  have hleft : { t with cyc := (t.cyc.toNat : Int) } = t := by rw [Int.toNat_of_nonneg hcyc]
  obtain ⟨extra, rfl⟩ := Nat.exists_eq_add_of_le (Int.toNat_le.mpr hfuel)
  rw [execute_eq h, hleft, runLoop_add _ _ _ (Int.self_le_toNat _)]

/-- R231, R237: one turn of the loop, and the rest of it as an `execute` of the budget left. -/
theorem execute_unroll {s : State} {n : Nat} (h : s.fault = none) (hn : 0 < n) :
    ∃ t, step { s with cyc := n } = .next t ∧
      execute n s = if t.fault = none ∧ 0 < t.cyc then execute t.cyc.toNat t else t := by
  obtain ⟨fuel, rfl⟩ := Nat.exists_eq_add_one_of_ne_zero hn.ne'
  have hpos : (0 : Int) < ((fuel + 1 : Nat) : Int) := by omega
  obtain ⟨t, hstep, hcharge⟩ := step_charges (s := { s with cyc := ((fuel + 1 : Nat) : Int) }) h
  refine ⟨t, hstep, ?_⟩
  rw [execute_eq h, runLoop_step fuel _ t hpos hstep]
  split
  case isTrue hgoes =>
    have hfuel : t.cyc ≤ fuel := by
      obtain ⟨ht, _⟩ | ⟨_, hlow, _⟩ := hcharge
      · exact absurd hgoes.1 ht
      · dsimp only at hlow; omega
    exact (execute_left hgoes.1 hgoes.2.le hfuel).symm
  case isFalse hends =>
    by_cases ht : t.fault = none
    · exact runLoop_done fuel t (not_lt.mp fun hcyc => hends ⟨ht, hcyc⟩)
    · exact runLoop_latched fuel t ht

/-- The exception "propagates immediately out of `execute`" (R250, R258). -/
theorem executeReply_of_raised {s t : State} {e : UnknownOpcode} (h : s.fault = none)
    (ht : t.fault = some e) : executeReply s t = .raised e := by simp [executeReply, h, ht]

theorem executeReply_of_done {s t : State} (h : s.fault = none) (ht : t.fault = none) :
    executeReply s t = .done := by simp [executeReply, h, ht]

/-- Settles O51: the loop unrolled by one turn; its fuel is never what ends it. -/
theorem executeIsTheWhileLoop : Obligations.ExecuteIsTheWhileLoop := by
  refine ⟨fun s n hlatched => ?_, fun s h => execute_eq h 0, fun s n => execute_unroll,
    fun s n h => ⟨fun e he => ?_, fun hnone => ?_⟩, fun s fuel => runLoop_succ fuel s⟩
  · obtain ⟨e, he⟩ := Option.ne_none_iff_exists'.mp hlatched
    exact execute_latched he n
  · exact congrArg (Prod.mk _) (executeReply_of_raised h he)
  · exact congrArg (Prod.mk _) (executeReply_of_done h hnone)

/-! ### How a run ends -/

theorem runLoop_end (fuel : Nat) (s : State) (hfault : s.fault = none) (hfuel : s.cyc ≤ fuel)
    (hlow : -6 ≤ s.cyc) :
    ((runLoop fuel s).fault = none → -6 ≤ (runLoop fuel s).cyc ∧ (runLoop fuel s).cyc ≤ 0) ∧
      ((runLoop fuel s).fault ≠ none →
        0 < (runLoop fuel s).cyc ∧ (runLoop fuel s).cyc ≤ s.cyc) := by
  refine runLoop_induction (motive := fun _ s u => -6 ≤ s.cyc →
    (u.fault = none → -6 ≤ u.cyc ∧ u.cyc ≤ 0) ∧ (u.fault ≠ none → 0 < u.cyc ∧ u.cyc ≤ s.cyc))
    ?done ?raised ?completed fuel s hfault hfuel hlow
  case done =>
    intro _ s hfault hcyc hlow
    exact ⟨fun _ => ⟨hlow, hcyc⟩, fun h => absurd hfault h⟩
  case raised =>
    intro _ s t _ hcyc _ ht hkept _
    exact ⟨fun h => absurd h ht, fun _ => ⟨by omega, by omega⟩⟩
  case completed =>
    intro _ s t u _ hcyc _ _ hcharge hmost ih _
    obtain ⟨hdone, hraised⟩ := ih (by omega)
    exact ⟨hdone, fun h => ⟨(hraised h).1, by have := (hraised h).2; omega⟩⟩

/-- Settles O52: the last instruction charges at most 7 from a budget of at least 1. -/
theorem executeOvershootsAtMostSix : Obligations.ExecuteOvershootsAtMostSix := by
  intro s n h
  have hend := runLoop_end n { s with cyc := n } h (le_refl _) (by dsimp only; omega)
  rw [← execute_eq h] at hend
  refine ⟨hend.1, hend.2, ?_⟩
  cases hfault : (execute n s).fault with
  | none => simp [State.running, (hend.1 hfault).2]
  | some e => simp [State.running, hfault]

/-- The loop is a run of the machine that uses up at least 2 of the budget with each step but the last. -/
theorem runLoop_is_run (fuel : Nat) (s : State) (hfault : s.fault = none) (hfuel : s.cyc ≤ fuel) :
    ∃ k : Nat, (k = 0 ∨ 2 * (k : Int) ≤ s.cyc + 1) ∧
      Host.Core.run core k s = .next (runLoop fuel s) := by
  refine runLoop_induction (motive := fun _ s u => ∃ k : Nat,
    (k = 0 ∨ 2 * (k : Int) ≤ s.cyc + 1) ∧ Host.Core.run core k s = .next u)
    ?done ?raised ?completed fuel s hfault hfuel
  case done => exact fun _ s _ _ => ⟨0, .inl rfl, rfl⟩
  case raised =>
    intro _ s t _ hcyc hstep _ _
    exact ⟨1, .inr (by omega), run_succ core 0 s t hstep⟩
  case completed =>
    intro _ s t u _ hcyc hstep _ hcharge _ ⟨k, hk, hrun⟩
    exact ⟨k + 1, .inr (by omega), (run_succ core k s t hstep).trans hrun⟩

/-- Settles O53: the loop is a run of the machine, and every step but the last uses up 2 or more. -/
theorem executeIsFewSteps : Obligations.ExecuteIsFewSteps := by
  intro s n h
  obtain ⟨k, hk, hrun⟩ := runLoop_is_run n { s with cyc := n } h (le_refl _)
  rw [← execute_eq h] at hrun
  exact ⟨k, by dsimp only at hk; omega, hrun⟩

/-! ### Two commands in a row -/

@[simp] theorem resolveAddr_with_cyc (o : MemOperand) (s : State) (c : Int) :
    resolveAddr o { s with cyc := c } = resolveAddr o s := by cases o <;> rfl

@[simp] theorem operandValue_with_cyc (o : ValueOperand) (s : State) (c : Int) :
    operandValue o { s with cyc := c } = operandValue o s := by cases o <;> simp [operandValue]

@[simp] theorem operandCrossed_with_cyc (o : ValueOperand) (s : State) (c : Int) :
    operandCrossed o { s with cyc := c } = operandCrossed o s := by
  cases o <;> simp [operandCrossed]

theorem State.reg_with_cyc (s : State) (r : Reg) (c : Int) :
    { s with cyc := c }.reg r = s.reg r := by cases r <;> rfl

theorem State.setReg_with_cyc (s : State) (r : Reg) (v : Byte) (c : Int) :
    { s with cyc := c }.setReg r v = { s.setReg r v with cyc := c } := by cases r <;> rfl

theorem State.setFlag_with_cyc (s : State) (k : Flag) (w : Bool) (c : Int) :
    { s with cyc := c }.setFlag k w = { s.setFlag k w with cyc := c } := by cases k <;> rfl

theorem State.flag_with_cyc (s : State) (k : Flag) (c : Int) :
    { s with cyc := c }.flag k = s.flag k := by cases k <;> rfl

/-- No instruction looks at the budget (R235): with d more before it, d more are left after it. -/
theorem Shape.add_cyc {i : Instr} {f : State → State} (h : Shape i f) (s : State) (d : Int) :
    f { s with cyc := s.cyc + d } = { f s with cyc := (f s).cyc + d } := by
  cases h with
  | load r o =>
    rw [load_eq, load_eq, operandValue_with_cyc, operandCrossed_with_cyc, State.setReg_with_cyc,
      add_sub_right_comm]
  | store r o =>
    rw [store_eq, store_eq, resolveAddr_with_cyc, State.reg_with_cyc, add_sub_right_comm]
  | transfer src dst =>
    rw [transfer_eq, transfer_eq, State.reg_with_cyc, State.setReg_with_cyc, add_sub_right_comm]
  | adc o =>
    rw [adc_eq, adc_eq, operandValue_with_cyc, operandCrossed_with_cyc, add_sub_right_comm]
  | logical op o =>
    rw [logical_eq, logical_eq, operandValue_with_cyc, operandCrossed_with_cyc, add_sub_right_comm]
  | bitTest o => rw [bitTest_eq, bitTest_eq, resolveAddr_with_cyc, add_sub_right_comm]
  | incDecMemory dir o =>
    rw [incDecMemory_eq, incDecMemory_eq, resolveAddr_with_cyc, add_sub_right_comm]
  | incDecRegister dir r =>
    rw [incDecRegister_eq, incDecRegister_eq, State.reg_with_cyc, State.setReg_with_cyc,
      add_sub_right_comm]
  | shiftAccumulator kind => rw [shift_accumulator_eq, shift_accumulator_eq, add_sub_right_comm]
  | shiftMemory kind o =>
    rw [shift_memory_eq, shift_memory_eq, resolveAddr_with_cyc, add_sub_right_comm]
  | setFlag k | clearFlag k =>
    rw [writeFlag_eq, writeFlag_eq, State.setFlag_with_cyc, add_sub_right_comm]
  | branch k takenWhen rel8 =>
    by_cases ht : s.flag k = takenWhen
    · rw [branch_taken_eq _ _ _ _ ht, branch_taken_eq _ _ _ _ ((s.flag_with_cyc k _).trans ht),
        add_sub_right_comm]
    · rw [branch_not_taken_eq _ _ _ _ ht,
        branch_not_taken_eq _ _ _ _ (by rwa [State.flag_with_cyc]), add_sub_right_comm]
  | nop => rw [nop_eq, nop_eq, add_sub_right_comm]

theorem step_add_cyc {s t : State} (h : s.fault = none) (hstep : step s = .next t) (d : Int) :
    step { s with cyc := s.cyc + d } = .next { t with cyc := t.cyc + d } := by
  cases hi : s.fetchInstr with
  | none =>
    obtain rfl : s.raiseUnknownOpcode = t :=
      Host.Outcome.next.inj ((step_raises s h hi).symm.trans hstep)
    exact step_raises { s with cyc := s.cyc + d } h hi
  | some i =>
    obtain ⟨f, hshape, hf⟩ := exec_shape i
    obtain rfl : f s = t :=
      Host.Outcome.next.inj (((step_exec s i h hi).trans (hf s)).symm.trans hstep)
    rw [step_exec { s with cyc := s.cyc + d } i h hi, hf, hshape.add_cyc]

/-- A loop that ends with the budget exactly used up goes on, with more budget, from where it ended. -/
theorem runLoop_add_budget (fuel : Nat) (s : State) (hfault : s.fault = none)
    (hfuel : s.cyc ≤ fuel) (b : Nat) (hend : (runLoop fuel s).fault = none)
    (hexact : (runLoop fuel s).cyc = 0) :
    runLoop (fuel + b) { s with cyc := s.cyc + b } =
      runLoop b { runLoop fuel s with cyc := b } := by
  refine runLoop_induction (motive := fun fuel s u => u.fault = none → u.cyc = 0 →
    runLoop (fuel + b) { s with cyc := s.cyc + b } = runLoop b { u with cyc := b })
    ?done ?raised ?completed fuel s hfault hfuel hend hexact
  case done =>
    intro fuel s _ _ _ hzero
    rw [hzero, zero_add, Nat.add_comm]
    exact runLoop_add b fuel _ (le_refl _)
  case raised => exact fun _ _ _ _ _ _ ht _ h _ => absurd h ht
  case completed =>
    intro fuel s t u hs hcyc hstep _ _ _ ih hu hzero
    have hpos : 0 < s.cyc + (b : Int) := by omega
    rw [Nat.add_right_comm, runLoop_step _ _ _ hpos (step_add_cyc hs hstep b)]
    exact ih hu hzero

/-- Settles O54: the steps of the first command are the first steps of the sum, with more budget left. -/
theorem executeComposesAtExactEnd : Obligations.ExecuteComposesAtExactEnd := by
  intro s a b h hend hexact
  rw [execute_eq hend b]
  rw [execute_eq h] at hend hexact ⊢
  rw [execute_eq h, Nat.cast_add]
  exact (runLoop_add_budget a { s with cyc := a } h (le_refl _) b hend hexact).symm

/-! ### Right after reset -/

/-- Settles O50: memory is zeroed, and the byte 00 has no entry. -/
theorem executeAfterResetRaises : Obligations.ExecuteAfterResetRaises := by
  intro sp pc n
  refine ⟨?_, execute_eq (State.fault_resetWith sp pc) 0⟩
  have hnone : { State.resetWith sp pc with cyc := ((n + 1 : Nat) : Int) }.fetchInstr = none :=
    (fetchInstr_none _).mpr rfl
  have hpos : (0 : Int) < ((n + 1 : Nat) : Int) := by omega
  rw [execute_eq (State.fault_resetWith sp pc), runLoop_step n _ _ hpos (step_raises _ rfl hnone)]
  exact runLoop_latched n _ nofun

end Sys2Proof.Machine
end

section
/-! PROOFS. The accessors of the host (R38 to R41): a value reduced into its range, one item written. -/

namespace Sys2Proof.Machine

open Sys2Proof.Statements

/-- Settles O18: the byte stored is the value modulo 256. -/
theorem setMemoryGetMemoryRoundTrip : Obligations.SetMemoryGetMemoryRoundTrip := by
  intro s p v
  refine ⟨rfl, rfl, BitVec.ofInt 8 v, toNat_ofInt_eq_emod 8 v, ?_⟩
  exact congrArg Reply.byte (s.mem.read_write_same p (BitVec.ofInt 8 v))

/-- Settles O55: `setReg`, `setFlag` and the write of pc, each with its frame. -/
theorem hostAccessorsReadAndWriteOneItem : Obligations.HostAccessorsReadAndWriteOneItem := by
  intro s v
  refine ⟨fun r => ?register, ⟨toNat_ofInt_eq_emod 16 v, rfl⟩, rfl, rfl, fun k w => ?status⟩
  case register =>
    have hreg := s.reg_setReg_same r (BitVec.ofInt 8 v)
    exact ⟨(congrArg (fun w : Byte => (w.toNat : Int)) hreg).trans (toNat_ofInt_eq_emod 8 v),
      regsKept_setReg s r _, fun k _ => s.flag_setReg r _ k, s.pc_setReg r _, s.mem_setReg r _,
      s.cyc_setReg r _, s.fault_setReg r _, rfl⟩
  case status =>
    exact ⟨s.flag_setFlag_same k w, flagsKept_setFlag s k w, fun r _ => s.reg_setFlag k w r,
      s.pc_setFlag k w, s.mem_setFlag k w, s.cyc_setFlag k w, s.fault_setFlag k w, rfl⟩

end Sys2Proof.Machine
end
